-- ==== Sys2Proof/Word.lean ====
section
/-! DEFINITION. The words of the block: bytes, selector words, and the four control bytes (spec 00_scope R16, 30_encoding R101). -/

namespace Sys2Proof

/-- An 8-bit unsigned value; bit 7 is the most significant (R16). -/
abbrev Byte := BitVec 8

/-- A 16-bit transition selector word (R115). -/
abbrev Tsel := BitVec 16

/-- Start marker, frame offset 0 (R101). -/
abbrev stx : Byte := 0x02#8

/-- End marker, frame offset LEN + 3 (R101). -/
abbrev etx : Byte := 0x03#8

/-- Acknowledgment, RX to TX, sent alone (R101). -/
abbrev ack : Byte := 0x06#8

/-- Negative acknowledgment, RX to TX, sent alone (R101). -/
abbrev nack : Byte := 0x15#8

end Sys2Proof
end

