-- ==== Sys2Proof/Config.lean ====
section
/-! DEFINITION. The parameters of a harness (spec 00_scope R8 to R15) and the values the spec leaves free, with the queues and the actions on a Send they speak of. -/

namespace Sys2Proof

/-- How TX, RX and Channel are connected (R12): two queues FWD and REV, or one queue. -/
inductive Topology where
  | duplex
  | shared
  deriving DecidableEq, Repr

/-- What the environment may do to bytes in the Channel (R15, R82). -/
inductive EnvModel where
  | reliable
  | lossy
  deriving DecidableEq, Repr

/-- The queues of the Channel (R12, R77): FWD and REV exist under DUPLEX, Q under SHARED. -/
inductive Queue where
  | fwd
  | rev
  | q
  deriving DecidableEq, Repr

/-- What a LOSSY environment does to one Send (R82 (a), (b)). -/
inductive SendAct where
  /-- The byte is appended as sent. -/
  | pass
  /-- (a) The byte is discarded in place of the append. -/
  | drop
  /-- (b) This byte is appended instead; the byte that was sent makes it a pass. -/
  | corrupt (b : Byte)
  deriving DecidableEq, Repr, Inhabited

/-- A configuration, fixed for the life of a harness (R54, R240). The fields are as wide as a caller can
ask for; HARNESS_CREATE refuses values outside the ranges of R8 to R15. -/
structure Cfg where
  /-- TIMEOUT (R8). -/
  timeout    : Nat
  /-- RETRY_LIMIT (R9). -/
  retryLimit : Nat
  /-- MAX_PAYLOAD (R10). -/
  maxPayload : Nat
  /-- CHANNEL_CAPACITY (R11). -/
  capacity   : Nat
  /-- TOPOLOGY (R12). -/
  topology   : Topology
  /-- TICK_WIDTH (R13). -/
  tickWidth  : Nat
  /-- ENV_MODEL (R15). -/
  env        : EnvModel
  deriving DecidableEq, Repr

/-- The reference configuration (R8 to R15). DESIGN CHOICE, unsafe: R11 gives CHANNEL_CAPACITY no value, 1024 is
the one the spec's vectors use (log entry 1). -/
def Cfg.reference : Cfg :=
  { timeout := 5, retryLimit := 3, maxPayload := 255, capacity := 1024
    topology := .duplex, tickWidth := 32, env := .reliable }

/-- The ranges of R8 to R13; HARNESS_CREATE refuses a configuration outside them (R240). -/
abbrev Cfg.InRange (c : Cfg) : Prop :=
  1 ≤ c.tickWidth ∧ c.timeout < 2 ^ c.tickWidth ∧ c.retryLimit ≤ 255 ∧ c.maxPayload ≤ 255 ∧ 1 ≤ c.capacity

/-- FREE VALUE (log entry 2): what an unwritten byte of rx_buf holds (R32: unwritten; 93 section 2 item 8: any value). -/
opaque Config.unwrittenRxByte : Nat → Byte

/-- FREE VALUE (log entry 2): what an unwritten byte of tx_frame holds (R40: unwritten; 93 section 2 item 8: any value). -/
opaque Config.unwrittenFrameByte : Nat → Byte

/-- FREE VALUE (log entry 7): what a LOSSY environment does at its n-th draw, where the draw is for a Send (R82 (a), (b); 93
section 2 item 7: a free draw under no law). -/
opaque Config.freeSendAct : Nat → SendAct

/-- FREE VALUE (log entry 7): what a LOSSY environment inserts at its n-th draw, where the draw is for an insertion point
(R82 (c); 93 section 2 item 7). -/
opaque Config.freeInsert : Nat → List (Queue × Byte)

end Sys2Proof
end

