-- ==== Sys2Proof/Syntax.lean ====
section
/-! DEFINITION. The operations of the block: the 25 transitions and the 14 host operations of spec/opcode_table.json, one constructor a row. -/

namespace Sys2Proof

/-- RX states, in the order of their codes (R109); codes 5, 6 and 7 are unused. -/
inductive RxState where
  | awaitStart
  | readLength
  | readPayload
  | readChecksum
  | readEnd
  | unused5
  | unused6
  | unused7
  deriving DecidableEq, Repr

/-- TX states, in the order of their codes (R110); codes 6 and 7 are unused. -/
inductive TxState where
  | init
  | buildAndArm
  | sending
  | awaitResponse
  | success
  | retryExhausted
  | unused6
  | unused7
  deriving DecidableEq, Repr

/-- The block's operations. A transition carries what its selector word leaves open: the input byte where the row's
mask does not fix it, the state code where it covers several codes. -/
inductive Instr where
  -- ReceiverEngine transitions (R162 to R174)
  | rxIdle (c : RxState)
  | rxStart
  | rxStray (b : Byte)
  | rxLenOversize (b : Byte)
  | rxLenZero
  | rxLen (b : Byte)
  | rxPayload (b : Byte)
  | rxPayloadLast (b : Byte)
  | rxChkOk (b : Byte)
  | rxChkBad (b : Byte)
  | rxEndOk
  | rxEndBad (b : Byte)
  | rxIllegal (c : RxState) (b : Byte)
  -- TransmitterEngine transitions (R202 to R216)
  | txInit
  | txBuildExhausted
  | txBuildArm
  | txSend
  | txSendLast
  | txAwaitAck
  | txAwaitNack
  | txAwaitStray (b : Byte)
  | txAwaitTimeout
  | txAwaitWait
  | txTerminal (c : TxState)
  | txIllegal (c : TxState)
  -- FrameCodec (R140 to R144)
  | codecChecksum (len : Byte) (data : List Byte)
  | codecEncode (payload : List Byte)
  | codecValidate (len : Byte) (data : List Byte) (chk : Byte)
  | codecDecode (bytes : List Byte)
  -- contexts (R160, R161, R200, R201, R219)
  | rxCreate
  | rxStep (input : Option Byte)
  | txStart (payload : List Byte)
  | txStep
  | txDestroy
  -- harness (R240, R243, R246); rxEnabled i of R246 is entry i of the list, 1 past its end
  | harnessCreate (cfg : Cfg)
  | schedRound (rxEnabled : Bool)
  | schedRun (maxIterations : Nat) (rxEnabled : List Bool)
  -- environment (R82, R124)
  | envInject (queue : Queue) (b : Byte)
  | envDropNext (queue : Queue)
  deriving DecidableEq, Repr

end Sys2Proof
end

