-- ==== Sys2Proof/WellFormed.lean ====
section
/-! DEFINITION. Which operands an operation admits by the spec's own words, apart from any state (guards of 30_encoding R118 on the byte alone; operand lines of 40_codec). -/

namespace Sys2Proof

/-- The RX state codes no rule writes (R109). -/
def RxState.isUnused : RxState → Bool
  | .unused5 | .unused6 | .unused7 => true
  | .awaitStart | .readLength | .readPayload | .readChecksum | .readEnd => false

/-- The TX state codes no rule writes (R110). -/
def TxState.isUnused : TxState → Bool
  | .unused6 | .unused7 => true
  | .init | .buildAndArm | .sending | .awaitResponse | .success | .retryExhausted => false

/-- SUCCESS and RETRY_EXHAUSTED, which no step leaves (R110, R215). -/
def TxState.isTerminal : TxState → Bool
  | .success | .retryExhausted => true
  | .init | .buildAndArm | .sending | .awaitResponse | .unused6 | .unused7 => false

/-- The operands an operation admits, whatever the state. -/
def Instr.wf : Instr → Bool
  | .rxIdle _ => true
  | .rxStart => true
  | .rxStray b => b != stx
  | .rxLenOversize b => b != 0#8
  | .rxLenZero => true
  | .rxLen b => b != 0#8
  | .rxPayload _ => true
  | .rxPayloadLast _ => true
  | .rxChkOk _ => true
  | .rxChkBad _ => true
  | .rxEndOk => true
  | .rxEndBad b => b != etx
  | .rxIllegal c _ => c.isUnused
  | .txInit => true
  | .txBuildExhausted => true
  | .txBuildArm => true
  | .txSend => true
  | .txSendLast => true
  | .txAwaitAck => true
  | .txAwaitNack => true
  | .txAwaitStray b => b != ack && b != nack
  | .txAwaitTimeout => true
  | .txAwaitWait => true
  | .txTerminal c => c.isTerminal
  | .txIllegal c => c.isUnused
  | .codecChecksum len data => data.length == len.toNat
  | .codecEncode payload => payload.length ≤ 255
  | .codecValidate len data _ => data.length == len.toNat
  | .codecDecode _ => true
  | .rxCreate => true
  | .rxStep _ => true
  | .txStart payload => payload.length ≤ 255
  | .txStep => true
  | .txDestroy => true
  | .harnessCreate cfg => decide cfg.InRange
  | .schedRound _ => true
  | .schedRun _ _ => true
  | .envInject _ _ => true
  | .envDropNext _ => true

end Sys2Proof
end

