-- ==== Sys2Proof/Decode.lean ====
section
/-! DEFINITION. The transition selector word TSEL: state codes, fields, the map of the 25 transitions, the decoder and the encoder (spec 30_encoding R109, R110, R115 to R119). -/

namespace Sys2Proof

/-! ### State codes -/

/-- RX state codes (R109). -/
def RxState.code : RxState → BitVec 3
  | .awaitStart => 0#3
  | .readLength => 1#3
  | .readPayload => 2#3
  | .readChecksum => 3#3
  | .readEnd => 4#3
  | .unused5 => 5#3
  | .unused6 => 6#3
  | .unused7 => 7#3

/-- The RX state of a code (R109). -/
def RxState.ofCode (c : BitVec 3) : RxState :=
  if c = 0#3 then .awaitStart
  else if c = 1#3 then .readLength
  else if c = 2#3 then .readPayload
  else if c = 3#3 then .readChecksum
  else if c = 4#3 then .readEnd
  else if c = 5#3 then .unused5
  else if c = 6#3 then .unused6
  else .unused7

/-- TX state codes (R110). -/
def TxState.code : TxState → BitVec 3
  | .init => 0#3
  | .buildAndArm => 1#3
  | .sending => 2#3
  | .awaitResponse => 3#3
  | .success => 4#3
  | .retryExhausted => 5#3
  | .unused6 => 6#3
  | .unused7 => 7#3

/-- The TX state of a code (R110). -/
def TxState.ofCode (c : BitVec 3) : TxState :=
  if c = 0#3 then .init
  else if c = 1#3 then .buildAndArm
  else if c = 2#3 then .sending
  else if c = 3#3 then .awaitResponse
  else if c = 4#3 then .success
  else if c = 5#3 then .retryExhausted
  else if c = 6#3 then .unused6
  else .unused7

/-! ### Fields of TSEL (R115) -/

/-- U, bit 15: 0 = RX, 1 = TX. -/
def tselU (w : Tsel) : Bool := w.getLsbD 15

/-- S, bits 14:12: the state code. -/
def tselS (w : Tsel) : BitVec 3 := w.extractLsb' 12 3

/-- Bits 11:9, reserved, 0. -/
def tselReserved (w : Tsel) : BitVec 3 := w.extractLsb' 9 3

/-- V, bit 8: an input byte is there. -/
def tselV (w : Tsel) : Bool := w.getLsbD 8

/-- B, bits 7:0: the input byte when V = 1, else 0. -/
def tselB (w : Tsel) : Byte := w.extractLsb' 0 8

/-- The selector word of a unit, a state code and an input (R115): U at bit 15, S from bit 12, V at bit 8, B from bit
0; the reserved bits stay 0, and B is 0 without a byte. -/
def tselWord (u : Bool) (c : BitVec 3) (input : Option Byte) : Tsel :=
  (BitVec.ofBool u).setWidth 16 <<< 15
    ||| c.setWidth 16 <<< 12
    ||| (BitVec.ofBool input.isSome).setWidth 16 <<< 8
    ||| (input.getD 0#8).setWidth 16

/-- A word some step can form (R115, R116): reserved bits 0, B = 0 when V = 0, and a TX word outside
AWAIT_RESPONSE carries no poll result. -/
def tselFormed (w : Tsel) : Bool :=
  tselReserved w == 0#3
    && (tselV w || tselB w == 0#8)
    && (!tselU w || tselS w == 3#3 || !tselV w)

/-! ### The guards (R115: "conditions ... not in TSEL") -/

/-- What the guards of R118 read besides the word. -/
structure Guards where
  maxPayload : Nat
  rxWcur     : Byte
  rxLen      : Byte
  rxChk      : Byte
  /-- tx_attempts after the first-entry action of R203. -/
  txAttempts : Byte
  retryLimit : Nat
  txCursor   : BitVec 9
  txFlen     : BitVec 9
  /-- Elapsed() of R221. -/
  elapsed    : Nat
  timeout    : Nat
  deriving DecidableEq, Repr

/-- What the decoder answers: a transition, or one of two rejections by name. -/
inductive Decoded where
  /-- The one row that matches (R117). -/
  | instr (i : Instr)
  /-- A reserved bit is set: "no row matches it" (R119, 93 section 2 item 11). -/
  | reserved
  /-- No guard of the state's rows holds: only in register values no rule reaches (R117). -/
  | noRow
  deriving DecidableEq, Repr

/-- The RX rows of R118. -/
def decodeRx (g : Guards) (c : RxState) (v : Bool) (b : Byte) : Decoded :=
  if v then
    match c with
    | .awaitStart => if b = stx then .instr .rxStart else .instr (.rxStray b)
    | .readLength =>
      if g.maxPayload < b.toNat then .instr (.rxLenOversize b)
      else if b = 0#8 then .instr .rxLenZero
      else .instr (.rxLen b)
    | .readPayload =>
      if g.rxWcur + 1#8 < g.rxLen then .instr (.rxPayload b)
      else if g.rxWcur + 1#8 = g.rxLen then .instr (.rxPayloadLast b)
      else .noRow
    | .readChecksum => if b = g.rxChk then .instr (.rxChkOk b) else .instr (.rxChkBad b)
    | .readEnd => if b = etx then .instr .rxEndOk else .instr (.rxEndBad b)
    | .unused5 => .instr (.rxIllegal .unused5 b)
    | .unused6 => .instr (.rxIllegal .unused6 b)
    | .unused7 => .instr (.rxIllegal .unused7 b)
  else .instr (.rxIdle c)

/-- The TX rows of R118. -/
def decodeTx (g : Guards) (c : TxState) (v : Bool) (b : Byte) : Decoded :=
  match c with
  | .init => .instr .txInit
  | .buildAndArm =>
    if g.txAttempts.toNat < g.retryLimit then .instr .txBuildArm else .instr .txBuildExhausted
  | .sending =>
    if g.txCursor + 1#9 < g.txFlen then .instr .txSend
    else if g.txCursor + 1#9 = g.txFlen then .instr .txSendLast
    else .noRow
  | .awaitResponse =>
    if v then
      if b = ack then .instr .txAwaitAck
      else if b = nack then .instr .txAwaitNack
      else .instr (.txAwaitStray b)
    else if g.elapsed < g.timeout then .instr .txAwaitWait
    else .instr .txAwaitTimeout
  | .success => .instr (.txTerminal .success)
  | .retryExhausted => .instr (.txTerminal .retryExhausted)
  | .unused6 => .instr (.txIllegal .unused6)
  | .unused7 => .instr (.txIllegal .unused7)

/-- Row selection (R117): the transition a word selects under the guards. -/
def decode (g : Guards) (w : Tsel) : Decoded :=
  if tselReserved w = 0#3 then
    if tselU w then decodeTx g (TxState.ofCode (tselS w)) (tselV w) (tselB w)
    else decodeRx g (RxState.ofCode (tselS w)) (tselV w) (tselB w)
  else .reserved

/-! ### The transition map as the spec prints it (R118) -/

/-- One row of the transition map. -/
structure Row where
  mask    : Tsel
  pattern : Tsel
  guard   : Guards → Tsel → Bool
  build   : Tsel → Instr

/-- `(TSEL & mask) == match` and the guard (R117). -/
def Row.hits (r : Row) (g : Guards) (w : Tsel) : Bool :=
  (w &&& r.mask) == r.pattern && r.guard g w

/-- The RX half of R118's table, row by row. -/
def rxRows : List Row :=
  [ ⟨0x8100, 0x0000, fun _ _ => true, fun w => .rxIdle (RxState.ofCode (tselS w))⟩,
    ⟨0xF1FF, 0x0102, fun _ _ => true, fun _ => .rxStart⟩,
    ⟨0xF100, 0x0100, fun _ w => tselB w != 0x02, fun w => .rxStray (tselB w)⟩,
    ⟨0xF100, 0x1100, fun g w => decide (g.maxPayload < (tselB w).toNat), fun w => .rxLenOversize (tselB w)⟩,
    ⟨0xF1FF, 0x1100, fun _ _ => true, fun _ => .rxLenZero⟩,
    ⟨0xF100, 0x1100, fun g w => decide (1 ≤ (tselB w).toNat ∧ (tselB w).toNat ≤ g.maxPayload), fun w => .rxLen (tselB w)⟩,
    ⟨0xF100, 0x2100, fun g _ => decide (g.rxWcur + 1#8 < g.rxLen), fun w => .rxPayload (tselB w)⟩,
    ⟨0xF100, 0x2100, fun g _ => g.rxWcur + 1#8 == g.rxLen, fun w => .rxPayloadLast (tselB w)⟩,
    ⟨0xF100, 0x3100, fun g w => tselB w == g.rxChk, fun w => .rxChkOk (tselB w)⟩,
    ⟨0xF100, 0x3100, fun g w => tselB w != g.rxChk, fun w => .rxChkBad (tselB w)⟩,
    ⟨0xF1FF, 0x4103, fun _ _ => true, fun _ => .rxEndOk⟩,
    ⟨0xF100, 0x4100, fun _ w => tselB w != 0x03, fun w => .rxEndBad (tselB w)⟩,
    ⟨0x8100, 0x0100, fun _ w => decide (5 ≤ (tselS w).toNat), fun w => .rxIllegal (RxState.ofCode (tselS w)) (tselB w)⟩ ]

/-- The TX half of R118's table, row by row. -/
def txRows : List Row :=
  [ ⟨0xF000, 0x8000, fun _ _ => true, fun _ => .txInit⟩,
    ⟨0xF000, 0x9000, fun g _ => decide (g.retryLimit ≤ g.txAttempts.toNat), fun _ => .txBuildExhausted⟩,
    ⟨0xF000, 0x9000, fun g _ => decide (g.txAttempts.toNat < g.retryLimit), fun _ => .txBuildArm⟩,
    ⟨0xF000, 0xA000, fun g _ => decide (g.txCursor + 1#9 < g.txFlen), fun _ => .txSend⟩,
    ⟨0xF000, 0xA000, fun g _ => g.txCursor + 1#9 == g.txFlen, fun _ => .txSendLast⟩,
    ⟨0xF1FF, 0xB106, fun _ _ => true, fun _ => .txAwaitAck⟩,
    ⟨0xF1FF, 0xB115, fun _ _ => true, fun _ => .txAwaitNack⟩,
    ⟨0xF100, 0xB100, fun _ w => tselB w != 0x06 && tselB w != 0x15, fun w => .txAwaitStray (tselB w)⟩,
    ⟨0xF100, 0xB000, fun g _ => decide (g.timeout ≤ g.elapsed), fun _ => .txAwaitTimeout⟩,
    ⟨0xF100, 0xB000, fun g _ => decide (g.elapsed < g.timeout), fun _ => .txAwaitWait⟩,
    ⟨0xE000, 0xC000, fun _ _ => true, fun w => .txTerminal (TxState.ofCode (tselS w))⟩,
    ⟨0xE000, 0xE000, fun _ _ => true, fun w => .txIllegal (TxState.ofCode (tselS w))⟩ ]

/-- The 25 rows of R118 in the table's order. -/
def transitionMap : List Row := rxRows ++ txRows

/-! ### The encoder -/

/-- The selector word of a transition (R115, R118); a host operation has no binary encoding (R124). -/
def encode : Instr → Option Tsel
  | .rxIdle c => some (tselWord false c.code none)
  | .rxStart => some (tselWord false 0#3 (some stx))
  | .rxStray b => some (tselWord false 0#3 (some b))
  | .rxLenOversize b => some (tselWord false 1#3 (some b))
  | .rxLenZero => some (tselWord false 1#3 (some 0#8))
  | .rxLen b => some (tselWord false 1#3 (some b))
  | .rxPayload b => some (tselWord false 2#3 (some b))
  | .rxPayloadLast b => some (tselWord false 2#3 (some b))
  | .rxChkOk b => some (tselWord false 3#3 (some b))
  | .rxChkBad b => some (tselWord false 3#3 (some b))
  | .rxEndOk => some (tselWord false 4#3 (some etx))
  | .rxEndBad b => some (tselWord false 4#3 (some b))
  | .rxIllegal c b => some (tselWord false c.code (some b))
  | .txInit => some (tselWord true 0#3 none)
  | .txBuildExhausted => some (tselWord true 1#3 none)
  | .txBuildArm => some (tselWord true 1#3 none)
  | .txSend => some (tselWord true 2#3 none)
  | .txSendLast => some (tselWord true 2#3 none)
  | .txAwaitAck => some (tselWord true 3#3 (some ack))
  | .txAwaitNack => some (tselWord true 3#3 (some nack))
  | .txAwaitStray b => some (tselWord true 3#3 (some b))
  | .txAwaitTimeout => some (tselWord true 3#3 none)
  | .txAwaitWait => some (tselWord true 3#3 none)
  | .txTerminal c => some (tselWord true c.code none)
  | .txIllegal c => some (tselWord true c.code none)
  | .codecChecksum _ _ => none
  | .codecEncode _ => none
  | .codecValidate _ _ _ => none
  | .codecDecode _ => none
  | .rxCreate => none
  | .rxStep _ => none
  | .txStart _ => none
  | .txStep => none
  | .txDestroy => none
  | .harnessCreate _ => none
  | .schedRound _ => none
  | .schedRun _ _ => none
  | .envInject _ _ => none
  | .envDropNext _ => none

/-- The guard under which a transition is selected (R118, guard column), as a condition on what the guards read. -/
def Instr.admitted (g : Guards) : Instr → Bool
  | .rxLenOversize b => decide (g.maxPayload < b.toNat)
  | .rxLen b => decide (b.toNat ≤ g.maxPayload)
  | .rxPayload _ => decide (g.rxWcur + 1#8 < g.rxLen)
  | .rxPayloadLast _ => g.rxWcur + 1#8 == g.rxLen
  | .rxChkOk b => b == g.rxChk
  | .rxChkBad b => b != g.rxChk
  | .txBuildExhausted => decide (g.retryLimit ≤ g.txAttempts.toNat)
  | .txBuildArm => decide (g.txAttempts.toNat < g.retryLimit)
  | .txSend => decide (g.txCursor + 1#9 < g.txFlen)
  | .txSendLast => g.txCursor + 1#9 == g.txFlen
  | .txAwaitTimeout => decide (g.timeout ≤ g.elapsed)
  | .txAwaitWait => decide (g.elapsed < g.timeout)
  | .rxIdle _ | .rxStart | .rxStray _ | .rxLenZero | .rxEndOk | .rxEndBad _ | .rxIllegal _ _ => true
  | .txInit | .txAwaitAck | .txAwaitNack | .txAwaitStray _ | .txTerminal _ | .txIllegal _ => true
  | .codecChecksum _ _ | .codecEncode _ | .codecValidate _ _ _ | .codecDecode _ => true
  | .rxCreate | .rxStep _ | .txStart _ | .txStep | .txDestroy => true
  | .harnessCreate _ | .schedRound _ | .schedRun _ _ | .envInject _ _ | .envDropNext _ => true

/-! ### Reading a word of the opcode table -/

/-- What the guards read when a word is decoded outside any run: the reference parameters (R8 to R10) and a
register state in the middle of a frame. DESIGN CHOICE (log entry 14): where two rows share a word, this picks one. -/
def tableGuards : Guards :=
  { maxPayload := 255, rxWcur := 0#8, rxLen := 2#8, rxChk := 0#8, txAttempts := 0#8, retryLimit := 3
    txCursor := 0#9, txFlen := 4#9, elapsed := 0, timeout := 5 }

/-- The transition whose selector word has the bits `w` (bits above `nbits` are 0; a TSEL word is 16 bits long). -/
def decodeTableWord (nbits w : Nat) : Option Instr :=
  if nbits ≤ 16 then
    match decode tableGuards (BitVec.ofNat 16 w) with
    | .instr i => some i
    | .reserved => none
    | .noRow => none
  else none

end Sys2Proof
end

