-- ==== Sys2Proof/Machine/State.lean ====
section
/-! DEFINITION. The state of the block and its harness as plain data (spec 10_state, 20_memory), the events of R20, the results of R53, the reasons a step can stop, and the state after reset. -/

namespace Sys2Proof.Machine

/-- A buffer (R71, R72): (index, byte) pairs with rising indexes; an index that is not listed is unwritten. -/
abbrev Buffer := List Host.Cell

/-- rx_outcome (R36, R114). Code 3 has no value here: no rule writes it (93 section 2 item 10, log entry 3). -/
inductive RxOutcome where
  | pending
  | success
  | error
  deriving DecidableEq, Repr

/-- tx_outcome (R45, R113). Code 3 has no value here: no rule writes it (log entry 3). -/
inductive TxOutcome where
  | pending
  | success
  | retryExhausted
  deriving DecidableEq, Repr

/-- run_status (R51). -/
inductive RunStatus where
  | terminal
  | budgetExhausted
  deriving DecidableEq, Repr

/-- Why a frame is rejected (R270, codes 1 to 3). -/
inductive RejectReason where
  | oversizedFrame
  | checksumMismatch
  | framingError
  deriving DecidableEq, Repr

/-- What `raise Fault` and HarnessFault name (R270, codes 6 and 7). -/
inductive FaultReason where
  | budgetExhausted
  | illegalState
  deriving DecidableEq, Repr

/-- The ReceiverContext (R31 to R36). -/
structure ReceiverContext where
  /-- rx_state, 3 bits (R31). -/
  state   : RxState
  /-- rx_buf, MAX_PAYLOAD bytes (R32, R72). -/
  buf     : Buffer
  /-- rx_len (R33). -/
  len     : Byte
  /-- rx_chk (R34). -/
  chk     : Byte
  /-- rx_wcur (R35). -/
  wcur    : Byte
  /-- rx_outcome (R36). -/
  outcome : RxOutcome
  deriving DecidableEq, Repr

/-- The TransmitterContext (R38 to R46). -/
structure TransmitterContext where
  /-- tx_state, 3 bits (R38). -/
  state     : TxState
  /-- tx_payload, captured by TX_START (R39, R73). -/
  payload   : List Byte
  /-- tx_plen (R39). -/
  plen      : Byte
  /-- tx_frame, up to 259 bytes (R40, R71). -/
  frame     : Buffer
  /-- tx_flen (R41). -/
  flen      : BitVec 9
  /-- tx_cursor (R42). -/
  cursor    : BitVec 9
  /-- tx_attempts (R43). -/
  attempts  : Byte
  /-- tx_wait_start, TICK_WIDTH bits, as a number below 2^TICK_WIDTH (R44). -/
  waitStart : Nat
  /-- tx_outcome (R45). -/
  outcome   : TxOutcome
  /-- tx_built (R46). -/
  built     : Bool
  deriving DecidableEq, Repr

/-- One Channel queue: its bytes, oldest first (R50), and whether a DROPNEXT waits for its next Send (R82, R124). -/
structure Fifo where
  bytes    : List Byte
  dropNext : Bool
  deriving DecidableEq, Repr

/-- The Channel (R50, R77): FWD and REV are in use under DUPLEX, Q under SHARED. -/
structure Channel where
  fwd : Fifo
  rev : Fifo
  q   : Fifo
  deriving DecidableEq, Repr

/-- What a LOSSY environment does once the listed draws are used up (log entry 7). -/
inductive EndlessDraws where
  /-- The same action at every Send and the same insertion at every insertion point, for ever. -/
  | steady (send : SendAct) (insert : List (Queue × Byte))
  /-- Free values, a new one at each draw: those of Config at `next`, `next + 1`, ... -/
  | free (next : Nat)
  deriving DecidableEq, Repr

/-- The free draws of a LOSSY environment still to come (R82; 93 section 2 item 7: a free input). The model's own
fields: an entry of `sends` for each Send, an entry of `inserts` for each insertion point of a round, and what comes
when a list is used up (log entry 7). No rule and no claim fixes them. -/
structure Environment where
  sends   : List SendAct
  inserts : List (List (Queue × Byte))
  endless : EndlessDraws
  deriving DecidableEq, Repr

/-- The events of R20. -/
inductive Event where
  | txByte (b : Byte)
  | deliver (payload : List Byte)
  | reject (reason : RejectReason)
  | ackSent
  | drop (queue : Queue) (b : Byte)
  | txDone (outcome : TxOutcome)
  | harnessFault (reason : FaultReason)
  deriving DecidableEq, Repr

/-- RX step result (R111). -/
inductive RxResult where
  | none
  | delivered
  | rejected (reason : RejectReason)
  deriving DecidableEq, Repr

/-- TX step result (R112). -/
inductive TxResult where
  | running
  | done
  deriving DecidableEq, Repr

/-- Result of CODEC_DECODE (R144). -/
inductive FrameVerdict where
  | ok (payload : List Byte)
  | incomplete
  | notAFrame
  | oversizedFrame
  | checksumMismatch
  | framingError
  | trailingBytes
  deriving DecidableEq, Repr

/-- What an operation returned to its caller. The block does not hold it (R53); the model's own field (log entry 9). -/
inductive OpResult where
  /-- The operation returns nothing. -/
  | nothing
  /-- An RX step's result. -/
  | rx (r : RxResult)
  /-- A TX step's result. -/
  | tx (r : TxResult)
  /-- A transition that chains into the next one (R201). -/
  | txContinue
  /-- The two step results of a round; none for an engine the round did not step (R243). -/
  | round (rx : Option RxResult) (tx : Option TxResult)
  /-- SCHED_RUN's pair (R246). -/
  | run (status : RunStatus) (iter : Nat)
  | checksum (c : Byte)
  | frame (bytes : List Byte)
  | valid (ok : Bool)
  | decoded (verdict : FrameVerdict)
  /-- The operation ended in `raise Fault(reason)`: "none; the run is faulted" (R174, R216). -/
  | raised (reason : FaultReason)
  deriving DecidableEq, Repr

/-- One entry of a program, the input of a model run (R124). -/
inductive Slot where
  /-- A host operation, in the notation's abstract form. -/
  | op (i : Instr)
  /-- A selector word given to the transition map, so that one transition can run alone (log entry 8). -/
  | tsel (w : Tsel)
  deriving DecidableEq, Repr

/-- Stuck states. Both are SAFE: the machine stops, in register values that no rule reaches. -/
inductive Fault where
  /-- RX_STEP, TX_STEP, SCHED_ROUND, SCHED_RUN or a selector word in a register state in which no row of R118
  matches (R117 promises one only in reachable states): READ_PAYLOAD with rx_wcur + 1 > rx_len, or SENDING with
  tx_cursor + 1 > tx_flen. Safe. -/
  | noRow
  /-- A buffer access outside the buffer's array (R32: 0..MAX_PAYLOAD-1; R40: up to 259 bytes): RX_PAYLOAD,
  RX_PAYLOAD_LAST, RX_END_OK, TX_SEND, TX_SEND_LAST and what runs them. Safe. -/
  | bufferRange
  deriving DecidableEq, Repr

/-- Refusals: "the operation has no step" (R21). All are SAFE: nothing is claimed of a refused operation. -/
inductive Refusal where
  /-- exec, for an operation without a meaning yet. Safe. -/
  | notModelled (mnemonic : String)
  /-- CODEC_ENCODE and TX_START with more than 255 bytes (R142, R200, R278), and BUILD_AND_ARM with such a payload in
  its register, which no rule puts there. Safe. -/
  | payloadTooLong
  /-- TX_START while tx_live = 1 (R200); TX_DESTROY of a context that is not terminal (R219). Safe. -/
  | contextLive
  /-- SCHED_RUN with tx_live = 0 (R246). Safe. -/
  | noTransmitter
  /-- HARNESS_CREATE outside the ranges of R8 to R15 (R240). Safe. -/
  | badConfiguration
  /-- A selector word with a reserved bit set (R119). Safe. -/
  | reservedSelector
  /-- A transition asked for in a register state that does not select it (R117, log entry 12). Safe. -/
  | rowNotSelected
  /-- ENV_INJECT and ENV_DROPNEXT on a queue the topology does not have (R77, log entry 13). Safe. -/
  | noSuchQueue
  /-- ENV_INJECT into a full queue under LOSSY: R82 (c) admits "any queue that is not full" (log entry 13). Safe. -/
  | queueFull
  /-- CODEC_CHECKSUM and CODEC_VALIDATE with a byte list whose length is not LEN (R140, R143: "of length L"). Safe. -/
  | lengthMismatch
  deriving DecidableEq, Repr

/-- Everything the spec gives the block and its harness, the environment's inputs, and the model's own observation
fields. -/
structure State where
  /-- The configuration HARNESS_CREATE fixed (R54, R240). -/
  cfg       : Cfg
  /-- The ReceiverContext (R31 to R36). -/
  rx        : ReceiverContext
  /-- The TransmitterContext (R38 to R46). -/
  tx        : TransmitterContext
  /-- tx_live (R47). -/
  txLive    : Bool
  /-- The Channel queues (R50). -/
  chan      : Channel
  /-- The Clock, TICK_WIDTH bits, as a number below 2^TICK_WIDTH (R49). -/
  now       : Nat
  /-- iter (R51). -/
  iter      : Nat
  /-- run_status (R51). -/
  runStatus : RunStatus
  /-- faulted (R51). -/
  faulted   : Bool
  /-- Input: the draws of a LOSSY environment (R82). -/
  env       : Environment
  /-- Input: the operations still to run (R124). -/
  program   : List Slot
  /-- Observation: the event history, oldest first (R20). -/
  history   : List Event
  /-- Observation: what the last operation returned (R53). -/
  result    : OpResult
  deriving DecidableEq, Repr

/-- The ReceiverContext RX_CREATE makes (R160, R301). -/
def ReceiverContext.initial : ReceiverContext :=
  { state := .awaitStart, buf := [], len := 0#8, chk := 0#8, wcur := 0#8, outcome := .pending }

/-- The TransmitterContext TX_START makes for a payload (R200, R301). -/
def TransmitterContext.initial (payload : List Byte) : TransmitterContext :=
  { state := .init, payload := payload, plen := BitVec.ofNat 8 payload.length, frame := [], flen := 0#9
    cursor := 0#9, attempts := 0#8, waitStart := 0, outcome := .pending, built := false }

/-- A queue HARNESS_CREATE makes: empty, nothing pending (R240). -/
def Fifo.empty : Fifo := { bytes := [], dropNext := false }

/-- The queues HARNESS_CREATE makes (R240). -/
def Channel.empty : Channel := { fwd := .empty, rev := .empty, q := .empty }

/-- The harness HARNESS_CREATE makes under a configuration (R240, R301), with no input and nothing observed yet.
DESIGN CHOICE, unsafe: the TX registers before TX_START (log entry 4), run_status before a Run (log entry 6). -/
def State.created (cfg : Cfg) : State :=
  { cfg := cfg, rx := .initial, tx := .initial [], txLive := false, chan := .empty, now := 0, iter := 0
    runStatus := .terminal, faulted := false, env := { sends := [], inserts := [], endless := .free 0 }
    program := [], history := [], result := .nothing }

/-- The block has no reset signal (R300): reset is the harness just created, in the reference configuration
(log entry 1). -/
def State.reset : State := State.created Cfg.reference

end Sys2Proof.Machine
end

