-- ==== Sys2Proof/Machine/Ops.lean ====
section
/-! DEFINITION. The named operations over the state: updates, buffers, the Channel primitives Send and Receive with the environment's part in them, the Clock, events, the error entry Reject and the fault entry raise. -/

namespace Sys2Proof.Machine

/-- What an operation answers. -/
abbrev Res := Host.Outcome State Fault Refusal

/-- The second operation runs on the state the first one leaves; a stop stays. -/
def andThen (r : Res) (f : State → Res) : Res :=
  match r with
  | .next s => f s
  | .fault e => .fault e
  | .refused e => .refused e

/-! ### Updates -/

def State.withCfg (s : State) (c : Cfg) : State := { s with cfg := c }
def State.withRx (s : State) (r : ReceiverContext) : State := { s with rx := r }
def State.withTx (s : State) (t : TransmitterContext) : State := { s with tx := t }
def State.withTxLive (s : State) (b : Bool) : State := { s with txLive := b }
def State.withChan (s : State) (c : Channel) : State := { s with chan := c }
def State.withNow (s : State) (n : Nat) : State := { s with now := n }
def State.withIter (s : State) (n : Nat) : State := { s with iter := n }
def State.withRunStatus (s : State) (r : RunStatus) : State := { s with runStatus := r }
def State.withFaulted (s : State) (b : Bool) : State := { s with faulted := b }
def State.withEnv (s : State) (e : Environment) : State := { s with env := e }
def State.withProgram (s : State) (p : List Slot) : State := { s with program := p }

/-- `Emit(event)`: appends to the event history (R20). -/
def State.emit (s : State) (e : Event) : State := { s with history := s.history ++ [e] }

/-- The operation returns `r` to its caller (R53). -/
def State.ret (s : State) (r : OpResult) : State := { s with result := r }

/-! ### Buffers (R71, R72) -/

/-- `buf[i] <- v`, keeping the indexes rising. -/
def Buffer.write (i : Nat) (v : Byte) : Buffer → Buffer
  | [] => [(i, v)]
  | (j, w) :: rest =>
    if i < j then (i, v) :: (j, w) :: rest
    else if i = j then (i, v) :: rest
    else (j, w) :: Buffer.write i v rest

/-- The byte at an index; none where nothing has been written (R32, R40). -/
def Buffer.read (i : Nat) : Buffer → Option Byte
  | [] => none
  | (j, w) :: rest => if i = j then some w else Buffer.read i rest

/-- The canonical form: indexes strictly rising from a lower bound on. -/
def Buffer.risesFrom (lo : Nat) : Buffer → Bool
  | [] => true
  | (j, _) :: rest => decide (lo ≤ j) && Buffer.risesFrom (j + 1) rest

/-- The canonical form of a buffer. -/
abbrev Buffer.wf (b : Buffer) : Prop := Buffer.risesFrom 0 b = true

/-- The buffer that holds a byte list at the indexes from `i` on. -/
def Buffer.ofListFrom (i : Nat) : List Byte → Buffer
  | [] => []
  | b :: bs => (i, b) :: Buffer.ofListFrom (i + 1) bs

/-- The buffer that holds a byte list from index 0 on (tx_frame after R203). -/
def Buffer.ofList (bs : List Byte) : Buffer := Buffer.ofListFrom 0 bs

/-- rx_buf[i]; an unwritten byte is a free value (log entry 2). -/
def rxByte (b : Buffer) (i : Nat) : Byte := (Buffer.read i b).getD (Config.unwrittenRxByte i)

/-- rx_buf[0 .. n). -/
def rxBytes (b : Buffer) (n : Nat) : List Byte := (List.range n).map (rxByte b)

/-- tx_frame[i]; an unwritten byte is a free value (log entry 2). -/
def frameByte (b : Buffer) (i : Nat) : Byte := (Buffer.read i b).getD (Config.unwrittenFrameByte i)

/-- The most bytes a frame has (R71). -/
def maxFrame : Nat := 259

/-! ### Channel (R74 to R78) -/

/-- A queue of the Channel. -/
def Channel.fifo (c : Channel) : Queue → Fifo
  | .fwd => c.fwd
  | .rev => c.rev
  | .q => c.q

/-- The Channel with one queue replaced. -/
def Channel.withFifo (c : Channel) (f : Fifo) : Queue → Channel
  | .fwd => { c with fwd := f }
  | .rev => { c with rev := f }
  | .q => { c with q := f }

end Sys2Proof.Machine

namespace Sys2Proof

/-- Whether a topology has a queue (R12, R77). -/
def Queue.isIn : Queue → Topology → Bool
  | .fwd, .duplex => true
  | .rev, .duplex => true
  | .q, .duplex => false
  | .fwd, .shared => false
  | .rev, .shared => false
  | .q, .shared => true

/-- Q_TX_OUT and Q_RX_IN: the queue frame bytes travel on (R77). -/
def Topology.frames : Topology → Queue
  | .duplex => .fwd
  | .shared => .q

/-- Q_RX_ACK and Q_TX_IN: the queue responses travel on (R77). -/
def Topology.responses : Topology → Queue
  | .duplex => .rev
  | .shared => .q

end Sys2Proof

namespace Sys2Proof.Machine

/-- A queue's bytes, oldest first. -/
def State.bytes (s : State) (k : Queue) : List Byte := (s.chan.fifo k).bytes

/-- The state with a queue's bytes replaced. -/
def State.withBytes (s : State) (k : Queue) (bs : List Byte) : State :=
  s.withChan (s.chan.withFifo { s.chan.fifo k with bytes := bs } k)

/-- The state with a queue's pending DROPNEXT set or cleared. -/
def State.withDropNext (s : State) (k : Queue) (d : Bool) : State :=
  s.withChan (s.chan.withFifo { s.chan.fifo k with dropNext := d } k)

/-- What a LOSSY environment does to the next Send: its next draw (R82, log entry 7). -/
def Environment.nextSend (e : Environment) : SendAct :=
  match e.sends with
  | act :: _ => act
  | [] =>
    match e.endless with
    | .steady act _ => act
    | .free n => Config.freeSendAct n

/-- The draws left after one for a Send. -/
def Environment.afterSend (e : Environment) : Environment :=
  match e.sends with
  | _ :: rest => { e with sends := rest }
  | [] =>
    match e.endless with
    | .steady _ _ => e
    | .free n => { e with endless := .free (n + 1) }

/-- What a LOSSY environment inserts at the next insertion point, in order: its next draw (R82 (c), log entry 7). -/
def Environment.nextInsert (e : Environment) : List (Queue × Byte) :=
  match e.inserts with
  | l :: _ => l
  | [] =>
    match e.endless with
    | .steady _ l => l
    | .free n => Config.freeInsert n

/-- The draws left after one for an insertion point. -/
def Environment.afterInsert (e : Environment) : Environment :=
  match e.inserts with
  | _ :: rest => { e with inserts := rest }
  | [] =>
    match e.endless with
    | .steady _ _ => e
    | .free n => { e with endless := .free (n + 1) }

/-- What the environment does to the Send that comes now on a queue (R82): nothing under RELIABLE; under LOSSY a
pending DROPNEXT drops it, else the next draw says. -/
def State.sendAct (s : State) (k : Queue) : SendAct :=
  match s.cfg.env with
  | .reliable => .pass
  | .lossy => if (s.chan.fifo k).dropNext then .drop else s.env.nextSend

/-- Under LOSSY a Send uses up the pending DROPNEXT of its queue and one draw. -/
def State.afterSend (s : State) (k : Queue) : State :=
  match s.cfg.env with
  | .reliable => s
  | .lossy => (s.withDropNext k false).withEnv s.env.afterSend

/-- `Send(q, b)` (R75, R78, R82). A full queue drops the byte and the environment has nothing to act on; otherwise the
environment acts in place of the append. DESIGN CHOICE: that order (log entry 5). -/
def send (k : Queue) (b : Byte) (s : State) : State :=
  if s.cfg.capacity ≤ (s.bytes k).length then (s.afterSend k).emit (.drop k b)
  else
    match s.sendAct k with
    | .pass => (s.afterSend k).withBytes k (s.bytes k ++ [b])
    | .drop => s.afterSend k
    | .corrupt c => (s.afterSend k).withBytes k (s.bytes k ++ [c])

/-- What `Receive(q)` returns: the oldest byte, or none (R76). -/
def received (k : Queue) (s : State) : Option Byte := (s.bytes k).head?

/-- What `Receive(q)` leaves: the oldest byte is gone (R76). -/
def receive (k : Queue) (s : State) : State := s.withBytes k (s.bytes k).tail

/-- One insertion (R82 (c)): into a queue the topology has, if it is not full; else nothing is inserted. -/
def insertByte (s : State) (i : Queue × Byte) : State :=
  if i.1.isIn s.cfg.topology ∧ (s.bytes i.1).length < s.cfg.capacity then s.withBytes i.1 (s.bytes i.1 ++ [i.2])
  else s

/-- An insertion point of a round (R243 corner case): under LOSSY the environment inserts what its next draw says. -/
def insertionPoint (s : State) : State :=
  match s.cfg.env with
  | .reliable => s
  | .lossy => s.env.nextInsert.foldl insertByte (s.withEnv s.env.afterInsert)

/-! ### Clock (R241, R242, R221) -/

/-- `now <- (now + 1) mod 2^TICK_WIDTH` (R242). -/
def tick (s : State) : State := s.withNow ((s.now + 1) % 2 ^ s.cfg.tickWidth)

/-- `Elapsed() = (Now() - tx_wait_start) mod 2^TICK_WIDTH`, unsigned (R221). -/
def elapsed (s : State) : Nat :=
  (s.now + (2 ^ s.cfg.tickWidth - s.tx.waitStart % 2 ^ s.cfg.tickWidth)) % 2 ^ s.cfg.tickWidth

/-! ### Error entry and fault entry -/

/-- `Reject(reason)`: the resynchronisation of R175, the block's error entry (R283). -/
def reject (reason : RejectReason) (s : State) : State :=
  ((s.withRx { s.rx with state := .awaitStart, len := 0#8, chk := 0#8, wcur := 0#8, outcome := .error }).emit
    (.reject reason)).ret (.rx (.rejected reason))

/-- `raise Fault(reason)`: sets `faulted` (R21, R51); the raising operation ends with no result (R174, R216). -/
def raiseFault (reason : FaultReason) (s : State) : State :=
  (s.withFaulted true).ret (.raised reason)

/-- Whether the operation just run ended in a raise. -/
def State.raised (s : State) : Bool :=
  match s.result with
  | .raised _ => true
  | _ => false

end Sys2Proof.Machine
end

