-- ==== Sys2Proof/Machine/Codec.lean ====
section
/-! DEFINITION. The FrameCodec (spec 40_codec): the pure functions of R140 to R144 and the meanings of the four CODEC operations, which change nothing but the returned result (R145). -/

namespace Sys2Proof.Machine

/-- `XorFold(L, d)` (R17), the checksum of R140: L, then every byte of d. -/
def checksum (len : Byte) (data : List Byte) : Byte := data.foldl (fun c b => c ^^^ b) len

/-- `Encode(p)` (R141): STX, LEN, DATA, CHK, ETX; none where the precondition of R142 fails. -/
def encodeFrame (p : List Byte) : Option (List Byte) :=
  if p.length ≤ 255 then
    some ([stx, BitVec.ofNat 8 p.length] ++ p ++ [checksum (BitVec.ofNat 8 p.length) p, etx])
  else none

/-- `ValidateChecksum(L, d, c)` (R143). -/
def validateChecksum (len : Byte) (data : List Byte) (chk : Byte) : Bool := checksum len data == chk

/-- The checks of R144 from the LEN byte on: `rest` is what follows LEN. -/
def decodeBody (maxPayload : Nat) (len : Byte) (rest : List Byte) : FrameVerdict :=
  let n := len.toNat
  if maxPayload < n then .oversizedFrame
  else if rest.length < n + 1 then .incomplete
  else if rest[n]? ≠ some (checksum len (rest.take n)) then .checksumMismatch
  else if rest.length < n + 2 then .incomplete
  else if rest[n + 1]? ≠ some etx then .framingError
  else if n + 2 < rest.length then .trailingBytes
  else .ok (rest.take n)

/-- `Decode(s)` (R144), its checks in the rule's order. -/
def decodeFrame (maxPayload : Nat) : List Byte → FrameVerdict
  | [] => .notAFrame
  | b :: rest =>
    if b ≠ stx then .notAFrame
    else
      match rest with
      | [] => .incomplete
      | len :: body => decodeBody maxPayload len body

/-- CODEC_CHECKSUM (R140). -/
def execCodecChecksum (len : Byte) (data : List Byte) (s : State) : Res :=
  if data.length = len.toNat then .next (s.ret (.checksum (checksum len data))) else .refused .lengthMismatch

/-- CODEC_ENCODE (R141, R142). -/
def execCodecEncode (payload : List Byte) (s : State) : Res :=
  match encodeFrame payload with
  | some bs => .next (s.ret (.frame bs))
  | none => .refused .payloadTooLong

/-- CODEC_VALIDATE (R143). -/
def execCodecValidate (len : Byte) (data : List Byte) (chk : Byte) (s : State) : Res :=
  if data.length = len.toNat then .next (s.ret (.valid (validateChecksum len data chk))) else .refused .lengthMismatch

/-- CODEC_DECODE (R144), under the harness's MAX_PAYLOAD. -/
def execCodecDecode (bytes : List Byte) (s : State) : Res :=
  .next (s.ret (.decoded (decodeFrame s.cfg.maxPayload bytes)))

end Sys2Proof.Machine
end

