-- ==== Sys2Proof/Machine/Environ.lean ====
section
/-! DEFINITION. The environment's operations of the program notation (spec 20_memory R82, 30_encoding R124): INJECT and DROPNEXT, actions of a LOSSY environment. -/

namespace Sys2Proof.Machine

/-- An action of the environment on a queue of the topology (R77); on another queue it has no step (log entry 13). Under
RELIABLE the action does not occur (R82, R50). DEDUCED (log entry 15): the operation then completes and changes nothing. -/
def environmentAct (k : Queue) (s : State) (act : Res) : Res :=
  if k.isIn s.cfg.topology then
    match s.cfg.env with
    | .reliable => .next (s.ret .nothing)
    | .lossy => act
  else .refused .noSuchQueue

/-- ENV_INJECT (R82 (c)): the byte is appended to a queue that is not full. -/
def execEnvInject (k : Queue) (b : Byte) (s : State) : Res :=
  environmentAct k s
    (if (s.bytes k).length < s.cfg.capacity then .next ((s.withBytes k (s.bytes k ++ [b])).ret .nothing)
     else .refused .queueFull)

/-- ENV_DROPNEXT (R82 (a), R124): the next Send on the queue is dropped. -/
def execEnvDropNext (k : Queue) (s : State) : Res :=
  environmentAct k s (.next ((s.withDropNext k true).ret .nothing))

end Sys2Proof.Machine
end

