-- ==== Sys2Proof/Machine/Operands.lean ====
section
/-! DEFINITION. What a transition is selected by: the poll of R116, the selector words of R161 and R201, and the guards' values (R118). -/

namespace Sys2Proof.Machine

/-- The result the poll of a TX transition has (R116, R201): in AWAIT_RESPONSE the oldest byte of Q_TX_IN; none in
every other state, where no poll is made. -/
def poll (s : State) : Option Byte :=
  match s.tx.state with
  | .awaitResponse => received s.cfg.topology.responses s
  | .init | .buildAndArm | .sending | .success | .retryExhausted | .unused6 | .unused7 => none

/-- The selector word of an RX step (R161). -/
def rxTsel (input : Option Byte) (s : State) : Tsel := tselWord false s.rx.state.code input

/-- The selector word of a TX transition (R116, R201). -/
def txTsel (s : State) : Tsel := tselWord true s.tx.state.code (poll s)

/-- What the guards of R118 read in a state; tx_attempts as it is after the first-entry action of R203. -/
def guardsOf (s : State) : Guards :=
  { maxPayload := s.cfg.maxPayload, rxWcur := s.rx.wcur, rxLen := s.rx.len, rxChk := s.rx.chk
    txAttempts := if s.tx.built then s.tx.attempts else 0#8
    retryLimit := s.cfg.retryLimit, txCursor := s.tx.cursor, txFlen := s.tx.flen
    elapsed := elapsed s, timeout := s.cfg.timeout }

/-- `rx_enabled(i)` of the rounds to come (R246): the next entry, 1 where none is given. -/
def nextEnabled (rxEnabled : List Bool) : Bool := rxEnabled.headD true

/-- `norx_until=<k>` (R124): the RX is disabled in the rounds before `k`. -/
def norxUntil (k : Nat) : List Bool := List.replicate k false

/-- The pseudo-operation FEED (R125): one RX_STEP a byte, in order. -/
def feed (bs : List Byte) : List Slot := bs.map fun b => .op (.rxStep (some b))

end Sys2Proof.Machine
end

