-- ==== Sys2Proof/Machine/Receiver.lean ====
section
/-! DEFINITION. The ReceiverEngine (spec 41_receiver): RX_CREATE, the thirteen transitions R162 to R174, and RX_STEP, which applies the one transition its selector word selects. -/

namespace Sys2Proof.Machine

/-- RX_CREATE (R160): a new ReceiverContext; rx_buf is left unwritten, the Channel is not touched. -/
def execRxCreate (s : State) : Res := .next ((s.withRx .initial).ret .nothing)

/-- RX_IDLE (R162): no byte; nothing is written, in any state code. -/
def execRxIdle (_c : RxState) (s : State) : Res := .next (s.ret (.rx .none))

/-- RX_START (R163). rx_len and rx_buf keep the last delivered payload. -/
def execRxStart (s : State) : Res :=
  if s.rx.state = .awaitStart then
    .next ((s.withRx { s.rx with state := .readLength, chk := 0#8, wcur := 0#8, outcome := .pending }).ret (.rx .none))
  else .refused .rowNotSelected

/-- RX_STRAY (R164): the byte is discarded. -/
def execRxStray (b : Byte) (s : State) : Res :=
  if s.rx.state = .awaitStart ∧ b ≠ stx then .next (s.ret (.rx .none)) else .refused .rowNotSelected

/-- RX_LEN_OVERSIZE (R165). -/
def execRxLenOversize (b : Byte) (s : State) : Res :=
  if s.rx.state = .readLength ∧ s.cfg.maxPayload < b.toNat then .next (reject .oversizedFrame s)
  else .refused .rowNotSelected

/-- RX_LEN_ZERO (R166): READ_PAYLOAD is skipped. -/
def execRxLenZero (s : State) : Res :=
  if s.rx.state = .readLength then
    .next ((s.withRx { s.rx with len := 0#8, chk := 0#8, wcur := 0#8, state := .readChecksum }).ret (.rx .none))
  else .refused .rowNotSelected

/-- RX_LEN (R167). -/
def execRxLen (b : Byte) (s : State) : Res :=
  if s.rx.state = .readLength ∧ 1 ≤ b.toNat ∧ b.toNat ≤ s.cfg.maxPayload then
    .next ((s.withRx { s.rx with len := b, chk := b, wcur := 0#8, state := .readPayload }).ret (.rx .none))
  else .refused .rowNotSelected

/-- What RX_PAYLOAD and RX_PAYLOAD_LAST do with their byte (R168, R169): store it at rx_wcur, fold it into rx_chk,
advance rx_wcur; `next` is the state after. rx_buf has the indexes 0..MAX_PAYLOAD-1 (R32). -/
def storePayloadByte (next : RxState) (b : Byte) (s : State) : Res :=
  if s.rx.wcur.toNat < s.cfg.maxPayload then
    .next ((s.withRx { s.rx with
      buf := Buffer.write s.rx.wcur.toNat b s.rx.buf
      chk := s.rx.chk ^^^ b
      wcur := s.rx.wcur + 1#8
      state := next }).ret (.rx .none))
  else .fault .bufferRange

/-- RX_PAYLOAD (R168). -/
def execRxPayload (b : Byte) (s : State) : Res :=
  if s.rx.state = .readPayload ∧ s.rx.wcur + 1#8 < s.rx.len then storePayloadByte .readPayload b s
  else .refused .rowNotSelected

/-- RX_PAYLOAD_LAST (R169). -/
def execRxPayloadLast (b : Byte) (s : State) : Res :=
  if s.rx.state = .readPayload ∧ s.rx.wcur + 1#8 = s.rx.len then storePayloadByte .readChecksum b s
  else .refused .rowNotSelected

/-- RX_CHK_OK (R170). -/
def execRxChkOk (b : Byte) (s : State) : Res :=
  if s.rx.state = .readChecksum ∧ b = s.rx.chk then
    .next ((s.withRx { s.rx with state := .readEnd }).ret (.rx .none))
  else .refused .rowNotSelected

/-- RX_CHK_BAD (R171). -/
def execRxChkBad (b : Byte) (s : State) : Res :=
  if s.rx.state = .readChecksum ∧ b ≠ s.rx.chk then .next (reject .checksumMismatch s)
  else .refused .rowNotSelected

/-- The delivery of R172, effects in the rule's order: outcome, Send of the ACK, AckSent, Deliver, back to
AWAIT_START. rx_len and rx_buf keep the payload (R180). -/
def deliver (s : State) : State :=
  let s1 := send s.cfg.topology.responses ack (s.withRx { s.rx with outcome := .success })
  let s2 := (s1.emit .ackSent).emit (.deliver (rxBytes s1.rx.buf s1.rx.len.toNat))
  (s2.withRx { s2.rx with state := .awaitStart, chk := 0#8, wcur := 0#8 }).ret (.rx .delivered)

/-- RX_END_OK (R172). -/
def execRxEndOk (s : State) : Res :=
  if s.rx.state = .readEnd then
    if s.rx.len.toNat ≤ s.cfg.maxPayload then .next (deliver s) else .fault .bufferRange
  else .refused .rowNotSelected

/-- RX_END_BAD (R173). -/
def execRxEndBad (b : Byte) (s : State) : Res :=
  if s.rx.state = .readEnd ∧ b ≠ etx then .next (reject .framingError s) else .refused .rowNotSelected

/-- RX_ILLEGAL (R174): raise Fault(IllegalState). -/
def execRxIllegal (c : RxState) (_b : Byte) (s : State) : Res :=
  if s.rx.state = c ∧ c.isUnused then .next (raiseFault .illegalState s) else .refused .rowNotSelected

/-- The transition of an RX row. -/
def rxApply (i : Instr) (s : State) : Res :=
  match i with
  | .rxIdle c => execRxIdle c s
  | .rxStart => execRxStart s
  | .rxStray b => execRxStray b s
  | .rxLenOversize b => execRxLenOversize b s
  | .rxLenZero => execRxLenZero s
  | .rxLen b => execRxLen b s
  | .rxPayload b => execRxPayload b s
  | .rxPayloadLast b => execRxPayloadLast b s
  | .rxChkOk b => execRxChkOk b s
  | .rxChkBad b => execRxChkBad b s
  | .rxEndOk => execRxEndOk s
  | .rxEndBad b => execRxEndBad b s
  | .rxIllegal c b => execRxIllegal c b s
  | .txInit | .txBuildExhausted | .txBuildArm | .txSend | .txSendLast | .txAwaitAck | .txAwaitNack | .txAwaitStray _
  | .txAwaitTimeout | .txAwaitWait | .txTerminal _ | .txIllegal _
  | .codecChecksum _ _ | .codecEncode _ | .codecValidate _ _ _ | .codecDecode _
  | .rxCreate | .rxStep _ | .txStart _ | .txStep | .txDestroy
  | .harnessCreate _ | .schedRound _ | .schedRun _ _ | .envInject _ _ | .envDropNext _ => .refused .rowNotSelected

/-- RX_STEP (R161): "the transition of the matching row, applied once". The byte is the caller's; the step takes none
from the Channel. -/
def execRxStep (input : Option Byte) (s : State) : Res :=
  match decode (guardsOf s) (rxTsel input s) with
  | .instr i => rxApply i s
  | .reserved => .refused .reservedSelector
  | .noRow => .fault .noRow

end Sys2Proof.Machine
end

