-- ==== Sys2Proof/Machine/Transmitter.lean ====
section
/-! DEFINITION. The TransmitterEngine (spec 42_transmitter): TX_START, TX_DESTROY, the twelve transitions R202 to R216, and TX_STEP, which chains transitions until one returns (R201). -/

namespace Sys2Proof.Machine

/-- TX_START (R200): a new TransmitterContext that captures the payload by value; the Channel is not flushed. -/
def execTxStart (payload : List Byte) (s : State) : Res :=
  if 255 < payload.length then .refused .payloadTooLong
  else if s.txLive then .refused .contextLive
  else .next (((s.withTx (.initial payload)).withTxLive true).ret .nothing)

/-- TX_DESTROY (R219): allowed only in a terminal state. -/
def execTxDestroy (s : State) : Res :=
  if s.tx.state.isTerminal then .next ((s.withTxLive false).ret .nothing) else .refused .contextLive

/-- TX_INIT (R202): only advances; the step goes on. -/
def execTxInit (s : State) : Res :=
  if s.tx.state = .init then .next ((s.withTx { s.tx with state := .buildAndArm }).ret .txContinue)
  else .refused .rowNotSelected

/-- The first-entry action of BUILD_AND_ARM (R203): encode once, reset the attempt count once. -/
def firstEntry (s : State) : Res :=
  if s.tx.built then .next s
  else
    match encodeFrame s.tx.payload with
    | some bs =>
      .next (s.withTx { s.tx with
        frame := Buffer.ofList bs, flen := s.tx.plen.zeroExtend 9 + 4#9, attempts := 0#8, built := true })
    | none => .refused .payloadTooLong

/-- TX_BUILD_EXHAUSTED (R204). -/
def execTxBuildExhausted (s : State) : Res :=
  if s.tx.state = .buildAndArm then
    andThen (firstEntry s) fun s1 =>
      if s1.cfg.retryLimit ≤ s1.tx.attempts.toNat then
        .next (((s1.withTx { s1.tx with state := .retryExhausted, outcome := .retryExhausted }).emit
          (.txDone .retryExhausted)).ret (.tx .done))
      else .refused .rowNotSelected
  else .refused .rowNotSelected

/-- TX_BUILD_ARM (R205): a new attempt; the step goes on. -/
def execTxBuildArm (s : State) : Res :=
  if s.tx.state = .buildAndArm then
    andThen (firstEntry s) fun s1 =>
      if s1.tx.attempts.toNat < s1.cfg.retryLimit then
        .next ((s1.withTx { s1.tx with attempts := s1.tx.attempts + 1#8, cursor := 0#9, state := .sending }).ret
          .txContinue)
      else .refused .rowNotSelected
  else .refused .rowNotSelected

/-- The Send of TX_SEND and TX_SEND_LAST (R207, R208): frame byte tx_cursor goes out, tx_cursor advances. tx_frame has
at most 259 bytes (R40). -/
def sendFrameByte (s : State) : Res :=
  if s.tx.cursor.toNat < maxFrame then
    let b := frameByte s.tx.frame s.tx.cursor.toNat
    let s1 := (send s.cfg.topology.frames b s).emit (.txByte b)
    .next (s1.withTx { s1.tx with cursor := s1.tx.cursor + 1#9 })
  else .fault .bufferRange

/-- TX_SEND (R207). -/
def execTxSend (s : State) : Res :=
  if s.tx.state = .sending ∧ s.tx.cursor + 1#9 < s.tx.flen then
    andThen (sendFrameByte s) fun s1 => .next (s1.ret (.tx .running))
  else .refused .rowNotSelected

/-- TX_SEND_LAST (R208): the wait starts at the tick of this step. -/
def execTxSendLast (s : State) : Res :=
  if s.tx.state = .sending ∧ s.tx.cursor + 1#9 = s.tx.flen then
    andThen (sendFrameByte s) fun s1 =>
      .next ((s1.withTx { s1.tx with waitStart := s1.now, state := .awaitResponse }).ret (.tx .running))
  else .refused .rowNotSelected

/-- The Receive of a TX transition whose poll finds a byte (R209 to R211): the byte leaves Q_TX_IN. -/
def takeResponse (s : State) : State := receive s.cfg.topology.responses s

/-- TX_AWAIT_ACK (R209). -/
def execTxAwaitAck (s : State) : Res :=
  if s.tx.state = .awaitResponse ∧ poll s = some ack then
    let s1 := takeResponse s
    .next (((s1.withTx { s1.tx with state := .success, outcome := .success }).emit (.txDone .success)).ret (.tx .done))
  else .refused .rowNotSelected

/-- TX_AWAIT_NACK (R210): the NACK moved a byte, so the step ends. -/
def execTxAwaitNack (s : State) : Res :=
  if s.tx.state = .awaitResponse ∧ poll s = some nack then
    let s1 := takeResponse s
    .next ((s1.withTx { s1.tx with state := .buildAndArm }).ret (.tx .running))
  else .refused .rowNotSelected

/-- TX_AWAIT_STRAY (R211): the byte is discarded and the timeout is not tested (R214). -/
def execTxAwaitStray (b : Byte) (s : State) : Res :=
  if s.tx.state = .awaitResponse ∧ poll s = some b ∧ b ≠ ack ∧ b ≠ nack then
    .next ((takeResponse s).ret (.tx .running))
  else .refused .rowNotSelected

/-- TX_AWAIT_TIMEOUT (R212): no byte moved, so the step goes on. -/
def execTxAwaitTimeout (s : State) : Res :=
  if s.tx.state = .awaitResponse ∧ poll s = none ∧ s.cfg.timeout ≤ elapsed s then
    .next ((s.withTx { s.tx with state := .buildAndArm }).ret .txContinue)
  else .refused .rowNotSelected

/-- TX_AWAIT_WAIT (R213). -/
def execTxAwaitWait (s : State) : Res :=
  if s.tx.state = .awaitResponse ∧ poll s = none ∧ elapsed s < s.cfg.timeout then .next (s.ret (.tx .running))
  else .refused .rowNotSelected

/-- TX_TERMINAL (R215): nothing is written. -/
def execTxTerminal (c : TxState) (s : State) : Res :=
  if s.tx.state = c ∧ c.isTerminal then .next (s.ret (.tx .done)) else .refused .rowNotSelected

/-- TX_ILLEGAL (R216): raise Fault(IllegalState). -/
def execTxIllegal (c : TxState) (s : State) : Res :=
  if s.tx.state = c ∧ c.isUnused then .next (raiseFault .illegalState s) else .refused .rowNotSelected

/-- The transition of a TX row. -/
def txApply (i : Instr) (s : State) : Res :=
  match i with
  | .txInit => execTxInit s
  | .txBuildExhausted => execTxBuildExhausted s
  | .txBuildArm => execTxBuildArm s
  | .txSend => execTxSend s
  | .txSendLast => execTxSendLast s
  | .txAwaitAck => execTxAwaitAck s
  | .txAwaitNack => execTxAwaitNack s
  | .txAwaitStray b => execTxAwaitStray b s
  | .txAwaitTimeout => execTxAwaitTimeout s
  | .txAwaitWait => execTxAwaitWait s
  | .txTerminal c => execTxTerminal c s
  | .txIllegal c => execTxIllegal c s
  | .rxIdle _ | .rxStart | .rxStray _ | .rxLenOversize _ | .rxLenZero | .rxLen _ | .rxPayload _ | .rxPayloadLast _
  | .rxChkOk _ | .rxChkBad _ | .rxEndOk | .rxEndBad _ | .rxIllegal _ _
  | .codecChecksum _ _ | .codecEncode _ | .codecValidate _ _ _ | .codecDecode _
  | .rxCreate | .rxStep _ | .txStart _ | .txStep | .txDestroy
  | .harnessCreate _ | .schedRound _ | .schedRun _ _ | .envInject _ _ | .envDropNext _ => .refused .rowNotSelected

/-- One transition of a TX step: form the selector word, select the row, apply it (R201). -/
def txTransition (s : State) : Res :=
  match decode (guardsOf s) (txTsel s) with
  | .instr i => txApply i s
  | .reserved => .refused .reservedSelector
  | .noRow => .fault .noRow

/-- The loop of R201, at most `n` transitions: goes on after a transition whose Next is "continue". -/
def txChain : Nat → State → Res
  | 0, s => .next s
  | n + 1, s => andThen (txTransition s) fun s1 => if s1.result = .txContinue then txChain n s1 else .next s1

/-- TX_STEP (R201). "The chain has at most three transitions". It tests no tx_live: R285 gives TX_STEP no
precondition (log entry 11). -/
def execTxStep (s : State) : Res := txChain 3 s

end Sys2Proof.Machine
end

