-- ==== Sys2Proof/Machine/Scheduler.lean ====
section
/-! DEFINITION. The harness (spec 43_scheduler): HARNESS_CREATE, the round and the run. -/

namespace Sys2Proof.Machine

/-- HARNESS_CREATE (R240): all harness state anew, under a configuration within its ranges. The inputs and
observations of the model (program, environment draws, event history) are no harness state and stay. -/
def execHarnessCreate (cfg : Cfg) (s : State) : Res :=
  if cfg.InRange then
    .next { State.created cfg with env := s.env, program := s.program, history := s.history }
  else .refused .badConfiguration

/-- The RX step result an operation returned, if it returned one. -/
def OpResult.rxPart : OpResult → Option RxResult
  | .rx r => some r
  | _ => none

/-- The TX step result an operation returned, if it returned one. -/
def OpResult.txPart : OpResult → Option TxResult
  | .tx r => some r
  | _ => none

/-- The RX's turn in a round (R243, R248, R249): with rx_enabled = 1 one Receive(Q_RX_IN) and one RxStep on what it
returned, with an insertion point between them (R82 (c), R243: an insertion may come anywhere before the RX step). -/
def rxTurn (rxEnabled : Bool) (s : State) : Res :=
  if rxEnabled then
    execRxStep (received s.cfg.topology.frames s) (insertionPoint (receive s.cfg.topology.frames s))
  else .next (s.ret .nothing)

/-- The TX's turn in a round (R243): a step if a context is live. -/
def txTurn (s : State) : Res :=
  if s.txLive then execTxStep s else .next (s.ret .nothing)

/-- What follows an engine's step in a round: a raise ends the operation there. DESIGN CHOICE (log entry 10). -/
def unlessRaised (r : Res) (f : State → Res) : Res :=
  andThen r fun s => if s.raised then .next s else f s

/-- One round (R243, R244): the RX's turn, the TX's turn, the Clock advance, and under LOSSY the environment's
insertion points before the RX's turn, in it, between the two turns and after them. -/
def round (rxEnabled : Bool) (s : State) : Res :=
  unlessRaised (rxTurn rxEnabled (insertionPoint s)) fun s1 =>
    unlessRaised (txTurn (insertionPoint s1)) fun s2 =>
      .next ((tick (insertionPoint s2)).ret (.round s1.result.rxPart s2.result.txPart))

/-- SCHED_ROUND (R243, R245). -/
def execSchedRound (rxEnabled : Bool) (s : State) : Res := round rxEnabled s

/-- The while loop of R246 with `n` rounds of its budget left: the terminal test comes before every round. -/
def runLoop : Nat → List Bool → State → Res
  | 0, _, s => .next (s.ret .nothing)
  | n + 1, en, s =>
    if s.tx.state.isTerminal then .next (s.ret .nothing)
    else unlessRaised (round (nextEnabled en) s) fun s1 => runLoop n en.tail (s1.withIter (s1.iter + 1))

/-- The end of a run (R246, R247): run_status, and on an exhausted budget the harness fault. -/
def endRun (s : State) : State :=
  if s.tx.state.isTerminal then (s.withRunStatus .terminal).ret (.run .terminal s.iter)
  else (((s.withRunStatus .budgetExhausted).withFaulted true).emit (.harnessFault .budgetExhausted)).ret
    (.run .budgetExhausted s.iter)

/-- SCHED_RUN (R246). -/
def execSchedRun (maxIterations : Nat) (rxEnabled : List Bool) (s : State) : Res :=
  if s.txLive then
    unlessRaised (runLoop maxIterations rxEnabled (s.withIter 0)) fun s1 => .next (endRun s1)
  else .refused .noTransmitter

end Sys2Proof.Machine
end

