-- ==== Sys2Proof/Machine/Dispatch.lean ====
section
/-! DEFINITION. Each operation of the table to its meaning, one arm a constructor. -/

namespace Sys2Proof.Machine

def exec (i : Instr) (s : State) : Host.Outcome State Fault Refusal :=
  match i with
  | .rxIdle c => Sys2Proof.Machine.execRxIdle c s
  | .rxStart => Sys2Proof.Machine.execRxStart s
  | .rxStray b => Sys2Proof.Machine.execRxStray b s
  | .rxLenOversize b => Sys2Proof.Machine.execRxLenOversize b s
  | .rxLenZero => Sys2Proof.Machine.execRxLenZero s
  | .rxLen b => Sys2Proof.Machine.execRxLen b s
  | .rxPayload b => Sys2Proof.Machine.execRxPayload b s
  | .rxPayloadLast b => Sys2Proof.Machine.execRxPayloadLast b s
  | .rxChkOk b => Sys2Proof.Machine.execRxChkOk b s
  | .rxChkBad b => Sys2Proof.Machine.execRxChkBad b s
  | .rxEndOk => Sys2Proof.Machine.execRxEndOk s
  | .rxEndBad b => Sys2Proof.Machine.execRxEndBad b s
  | .rxIllegal c b => Sys2Proof.Machine.execRxIllegal c b s
  | .txInit => Sys2Proof.Machine.execTxInit s
  | .txBuildExhausted => Sys2Proof.Machine.execTxBuildExhausted s
  | .txBuildArm => Sys2Proof.Machine.execTxBuildArm s
  | .txSend => Sys2Proof.Machine.execTxSend s
  | .txSendLast => Sys2Proof.Machine.execTxSendLast s
  | .txAwaitAck => Sys2Proof.Machine.execTxAwaitAck s
  | .txAwaitNack => Sys2Proof.Machine.execTxAwaitNack s
  | .txAwaitStray b => Sys2Proof.Machine.execTxAwaitStray b s
  | .txAwaitTimeout => Sys2Proof.Machine.execTxAwaitTimeout s
  | .txAwaitWait => Sys2Proof.Machine.execTxAwaitWait s
  | .txTerminal c => Sys2Proof.Machine.execTxTerminal c s
  | .txIllegal c => Sys2Proof.Machine.execTxIllegal c s
  | .codecChecksum len data => Sys2Proof.Machine.execCodecChecksum len data s
  | .codecEncode payload => Sys2Proof.Machine.execCodecEncode payload s
  | .codecValidate len data chk => Sys2Proof.Machine.execCodecValidate len data chk s
  | .codecDecode bytes => Sys2Proof.Machine.execCodecDecode bytes s
  | .rxCreate => Sys2Proof.Machine.execRxCreate s
  | .rxStep input => Sys2Proof.Machine.execRxStep input s
  | .txStart payload => Sys2Proof.Machine.execTxStart payload s
  | .txStep => Sys2Proof.Machine.execTxStep s
  | .txDestroy => Sys2Proof.Machine.execTxDestroy s
  | .harnessCreate cfg => Sys2Proof.Machine.execHarnessCreate cfg s
  | .schedRound rxEnabled => Sys2Proof.Machine.execSchedRound rxEnabled s
  | .schedRun maxIterations rxEnabled => Sys2Proof.Machine.execSchedRun maxIterations rxEnabled s
  | .envInject k b => Sys2Proof.Machine.execEnvInject k b s
  | .envDropNext k => Sys2Proof.Machine.execEnvDropNext k s

end Sys2Proof.Machine
end

