-- ==== Sys2Proof/Machine/Fetch.lean ====
section
/-! DEFINITION. What the machine runs next: an entry of the program (spec 30_encoding R124), or a selector word under the guards of the moment (R117); and how a transition is placed so that it runs next. -/

namespace Sys2Proof.Machine

/-- The operation a program entry stands for in a state, or why there is none. -/
inductive Fetched where
  | instr (i : Instr)
  | stuck (e : Fault)
  | refused (e : Refusal)
  deriving DecidableEq, Repr

/-- Reading a program entry: an operation stands for itself, a selector word for the row it selects (R117). -/
def fetch (slot : Slot) (s : State) : Fetched :=
  match slot with
  | .op i => .instr i
  | .tsel w =>
    match decode (guardsOf s) w with
    | .instr i => .instr i
    | .reserved => .refused .reservedSelector
    | .noRow => .stuck .noRow

/-- The state with the oldest byte of Q_TX_IN given: what the poll of R116 finds. -/
def withPoll (input : Option Byte) (s : State) : State := s.withBytes s.cfg.topology.responses input.toList

/-- The state with the operands a transition's rule names in place (its "Operands" line): the state code, the registers its
guard reads, and for a TX transition in AWAIT_RESPONSE the polled byte. Nothing else changes (log entry 8). -/
def prepare (i : Instr) (s : State) : State :=
  match i with
  | .rxIdle c => s.withRx { s.rx with state := c }
  | .rxStart => s.withRx { s.rx with state := .awaitStart }
  | .rxStray _ => s.withRx { s.rx with state := .awaitStart }
  | .rxLenOversize _ => (s.withCfg { s.cfg with maxPayload := 0 }).withRx { s.rx with state := .readLength }
  | .rxLenZero => (s.withCfg { s.cfg with maxPayload := 255 }).withRx { s.rx with state := .readLength }
  | .rxLen _ => (s.withCfg { s.cfg with maxPayload := 255 }).withRx { s.rx with state := .readLength }
  | .rxPayload _ =>
    (s.withCfg { s.cfg with maxPayload := 255 }).withRx { s.rx with state := .readPayload, wcur := 0#8, len := 2#8 }
  | .rxPayloadLast _ =>
    (s.withCfg { s.cfg with maxPayload := 255 }).withRx { s.rx with state := .readPayload, wcur := 0#8, len := 1#8 }
  | .rxChkOk b => s.withRx { s.rx with state := .readChecksum, chk := b }
  | .rxChkBad b => s.withRx { s.rx with state := .readChecksum, chk := b ^^^ 1#8 }
  | .rxEndOk => (s.withCfg { s.cfg with maxPayload := 255 }).withRx { s.rx with state := .readEnd }
  | .rxEndBad _ => s.withRx { s.rx with state := .readEnd }
  | .rxIllegal c _ => s.withRx { s.rx with state := c }
  | .txInit => s.withTx { s.tx with state := .init }
  | .txBuildExhausted =>
    (s.withCfg { s.cfg with retryLimit := 0 }).withTx
      { s.tx with state := .buildAndArm, payload := [], plen := 0#8, built := false }
  | .txBuildArm =>
    (s.withCfg { s.cfg with retryLimit := 3 }).withTx
      { s.tx with state := .buildAndArm, payload := [], plen := 0#8, built := false }
  | .txSend =>
    s.withTx { s.tx with
      state := .sending, frame := Buffer.ofList [0x02#8, 0x00#8, 0x00#8, 0x03#8], flen := 4#9, cursor := 0#9 }
  | .txSendLast =>
    s.withTx { s.tx with
      state := .sending, frame := Buffer.ofList [0x02#8, 0x00#8, 0x00#8, 0x03#8], flen := 4#9, cursor := 3#9 }
  | .txAwaitAck => withPoll (some ack) (s.withTx { s.tx with state := .awaitResponse })
  | .txAwaitNack => withPoll (some nack) (s.withTx { s.tx with state := .awaitResponse })
  | .txAwaitStray b => withPoll (some b) (s.withTx { s.tx with state := .awaitResponse })
  | .txAwaitTimeout =>
    withPoll none ((s.withCfg { s.cfg with timeout := 0 }).withTx { s.tx with state := .awaitResponse })
  | .txAwaitWait =>
    withPoll none
      ((s.withCfg { s.cfg with timeout := 5 }).withTx { s.tx with state := .awaitResponse, waitStart := s.now })
  | .txTerminal c => s.withTx { s.tx with state := c }
  | .txIllegal c => s.withTx { s.tx with state := c }
  | .codecChecksum _ _ | .codecEncode _ | .codecValidate _ _ _ | .codecDecode _
  | .rxCreate | .rxStep _ | .txStart _ | .txStep | .txDestroy
  | .harnessCreate _ | .schedRound _ | .schedRun _ _ | .envInject _ _ | .envDropNext _ => s

/-- The state in which the selector word with the bits `w` is the next entry of the program and selects the transition
the decoder reads from it. -/
def placeWord (nbits w : Nat) (s : State) : State :=
  let slot := Slot.tsel (BitVec.ofNat 16 w)
  match decodeTableWord nbits w with
  | some i => (prepare i s).withProgram (slot :: s.program)
  | none => s.withProgram (slot :: s.program)

end Sys2Proof.Machine
end

