-- ==== Sys2Proof/Machine/Step.lean ====
section
/-! DEFINITION. One step of a model run: the next operation of the program (spec 30_encoding R124). -/

namespace Sys2Proof.Machine

/-- Runs the next entry of the program. With none left nothing is stepped and everything keeps its value (R220, R290).
An operation that has no step leaves the run stuck at that point (R21). -/
def step (s : State) : Host.Outcome State Fault Refusal :=
  match s.program with
  | [] => .next s
  | slot :: rest =>
    match fetch slot s with
    | .instr i => exec i (s.withProgram rest)
    | .stuck e => .fault e
    | .refused e => .refused e

/-- The state with the word placed so that `step` runs it next (log entry 8). -/
def State.withFetchWord (s : State) (nbits w : Nat) : State := placeWord nbits w s

end Sys2Proof.Machine
end

