-- ==== Sys2Proof/Machine/Flags.lean ====
section
/-! DEFINITION. The status codes of the block. It has no condition codes (spec 10_state R53); its status outputs are the step results and the outcomes, with the codes of 30_encoding R111 to R114, and the error codes of 60_exceptions R270. -/

namespace Sys2Proof.Machine

/-- RX outcome code, 2 bits (R114). -/
def RxOutcome.code : RxOutcome → BitVec 2
  | .pending => 0#2
  | .success => 1#2
  | .error => 2#2

/-- TX outcome code, 2 bits (R113). -/
def TxOutcome.code : TxOutcome → BitVec 2
  | .pending => 0#2
  | .success => 1#2
  | .retryExhausted => 2#2

/-- RX step result code, 2 bits (R111). -/
def RxResult.code : RxResult → BitVec 2
  | .none => 0#2
  | .delivered => 1#2
  | .rejected _ => 2#2

/-- TX step result code, 1 bit (R112). -/
def TxResult.code : TxResult → BitVec 1
  | .running => 0#1
  | .done => 1#1

/-- The error and event codes of R270. -/
inductive ErrorCode where
  | none
  | oversizedFrame
  | checksumMismatch
  | framingError
  | channelStarvation
  | retryExhausted
  | budgetExhausted
  | illegalState
  | payloadTooLong
  | contextLive
  | noTransmitter
  deriving DecidableEq, Repr

/-- The numbers of R270. -/
def errorNumber : ErrorCode → Nat
  | .none => 0
  | .oversizedFrame => 1
  | .checksumMismatch => 2
  | .framingError => 3
  | .channelStarvation => 4
  | .retryExhausted => 5
  | .budgetExhausted => 6
  | .illegalState => 7
  | .payloadTooLong => 8
  | .contextLive => 9
  | .noTransmitter => 10

/-- The error a rejection stands for (R270). -/
def RejectReason.error : RejectReason → ErrorCode
  | .oversizedFrame => .oversizedFrame
  | .checksumMismatch => .checksumMismatch
  | .framingError => .framingError

/-- The error a fault stands for (R270). -/
def FaultReason.error : FaultReason → ErrorCode
  | .budgetExhausted => .budgetExhausted
  | .illegalState => .illegalState

/-- The error a TX outcome stands for (R270, R275). -/
def TxOutcome.error : TxOutcome → ErrorCode
  | .pending => .none
  | .success => .none
  | .retryExhausted => .retryExhausted

/-- The error a refusal of the spec stands for (R270); the model's other refusals have no number there. -/
def Refusal.error : Refusal → Option ErrorCode
  | .payloadTooLong => some .payloadTooLong
  | .contextLive => some .contextLive
  | .noTransmitter => some .noTransmitter
  | _ => none

/-- The reason code of an RX step result (R111): 0 unless it is a rejection. -/
def RxResult.reasonCode (r : RxResult) : BitVec 2 :=
  match r with
  | .none => 0#2
  | .delivered => 0#2
  | .rejected reason => BitVec.ofNat 2 (errorNumber reason.error)

/-- ChannelStarvation (R274): a frame is in progress and no byte is there. A condition; no operation reports it. -/
def channelStarved (input : Option Byte) (s : State) : Bool :=
  input.isNone && (s.rx.state == .readLength || s.rx.state == .readPayload || s.rx.state == .readChecksum
    || s.rx.state == .readEnd)

end Sys2Proof.Machine
end

