-- ==== Sys2Proof/Machine/Ports.lean ====
section
/-! DEFINITION. The port lists of spec 30_encoding R121 to R123 as functions of the input ports and the state: informative, no state of their own (92_eei_decisions D2). -/

namespace Sys2Proof.Machine

/-- A 255 x 8 data port. -/
abbrev DataPort := Vector Byte 255

/-- The bytes a data port carries under a length port; the other bytes are ignored (R121). -/
def DataPort.payload (data : DataPort) (len : Byte) : List Byte := data.toList.take len.toNat

/-- The state that output ports show after an operation: the next state, or the state the operation stopped in. -/
def shown (r : Res) (s : State) : State :=
  match r with
  | .next t => t
  | .fault _ => s
  | .refused _ => s

/-! ### FrameCodec (R121) -/

/-- The outputs of R121. enc_frame is given by its valid bytes, 0..L+3. -/
structure CodecPorts where
  encFrame : List Byte
  encFlen  : BitVec 9
  chkOk    : Bool
  deriving DecidableEq, Repr

/-- FrameCodec ports (R121): combinational. -/
def codecPorts (encLen : Byte) (encData : DataPort) (chkLen : Byte) (chkData : DataPort) (chkRx : Byte) : CodecPorts :=
  { encFrame := (encodeFrame (encData.payload encLen)).getD []
    encFlen := encLen.zeroExtend 9 + 4#9
    chkOk := validateChecksum chkLen (chkData.payload chkLen) chkRx }

/-! ### ReceiverEngine (R122) -/

/-- The inputs of R122: rx_step, rx_in_valid, rx_in_byte. -/
structure RxPortsIn where
  step    : Bool
  inValid : Bool
  inByte  : Byte
  deriving DecidableEq, Repr

/-- The byte_or_none argument the inputs carry. -/
def RxPortsIn.input (p : RxPortsIn) : Option Byte := if p.inValid then some p.inByte else none

/-- What the inputs invoke: RX_STEP once where rx_step = 1. -/
def rxInvoke (p : RxPortsIn) (s : State) : Res := if p.step then execRxStep p.input s else .next (s.ret .nothing)

/-- The outputs of R122. rx_result and rx_reason are there where a step returned a result (R111); rx_out_len,
rx_out_data and rx_outcome show the registers. -/
structure RxPorts where
  result       : Option (BitVec 2)
  reason       : Option (BitVec 2)
  ackValid     : Bool
  ackByte      : Byte
  deliverValid : Bool
  outLen       : Byte
  /-- MAX_PAYLOAD bytes; an unwritten one is a free value (log entry 2). -/
  outData      : List Byte
  outcome      : BitVec 2
  deriving DecidableEq, Repr

/-- The RX step result an operation answered, if it answered one. -/
def rxResultOf (r : Res) : Option RxResult :=
  match r with
  | .next t =>
    match t.result with
    | .rx x => some x
    | _ => none
  | .fault _ => none
  | .refused _ => none

/-- ReceiverEngine ports (R122). -/
def rxPorts (p : RxPortsIn) (s : State) : RxPorts :=
  let r := rxInvoke p s
  let t := shown r s
  { result := (rxResultOf r).map RxResult.code, reason := (rxResultOf r).map RxResult.reasonCode
    ackValid := rxResultOf r == some .delivered, ackByte := ack, deliverValid := rxResultOf r == some .delivered
    outLen := t.rx.len, outData := rxBytes t.rx.buf t.cfg.maxPayload, outcome := t.rx.outcome.code }

/-! ### TransmitterEngine (R123) -/

/-- The inputs of R123 by which the TX is invoked; one operation at a time (R7): tx_start with tx_start_len and
tx_start_data, or tx_step, or neither. -/
inductive TxPortsIn where
  | start (len : Byte) (data : DataPort)
  | step
  | idle
  deriving DecidableEq, Repr

/-- What the inputs invoke: TX_START with the payload of the data port (R200), or TX_STEP once. -/
def txInvoke (p : TxPortsIn) (s : State) : Res :=
  match p with
  | .start len data => execTxStart (data.payload len) s
  | .step => execTxStep s
  | .idle => .next (s.ret .nothing)

/-- The other signals of R123. -/
structure TxPorts where
  /-- tx_now, an input: the Clock, W bits. -/
  now     : Nat
  /-- tx_out_valid and tx_out_byte: the Send(Q_TX_OUT, b) of the step. -/
  out     : Option Byte
  /-- tx_poll: the step makes the Receive(Q_TX_IN). -/
  poll    : Bool
  /-- tx_resp_valid and tx_resp_byte, inputs: what that Receive returned. -/
  resp    : Option Byte
  /-- tx_result, where a step returned a result (R112). -/
  result  : Option (BitVec 1)
  /-- tx_outcome (R113). -/
  outcome : BitVec 2
  deriving DecidableEq, Repr

/-- The byte an event says the TX sent (R20). -/
def Event.sentByte : Event → Option Byte
  | .txByte b => some b
  | _ => none

/-- The TX step result an operation answered, if it answered one. -/
def txResultOf (r : Res) : Option TxResult :=
  match r with
  | .next t =>
    match t.result with
    | .tx x => some x
    | _ => none
  | .fault _ => none
  | .refused _ => none

/-- TransmitterEngine ports (R123). -/
def txPorts (p : TxPortsIn) (s : State) : TxPorts :=
  let r := txInvoke p s
  let t := shown r s
  let polls := p == .step && s.tx.state == .awaitResponse
  { now := s.now, out := (t.history.drop s.history.length).findSome? Event.sentByte, poll := polls
    resp := if polls then poll s else none, result := (txResultOf r).map TxResult.code, outcome := t.tx.outcome.code }

end Sys2Proof.Machine
end

