-- ==== Sys2Proof/Safety.lean ====
section
/-! DEFINITION. The terms claims are stated in: the invariants of the spec's registers (10_state, 20_memory), feeding the RX, the length of a run, and what a valid end is (00_scope R21). -/

namespace Sys2Proof.Machine

/-- The states in which rx_len, rx_chk and rx_wcur are meaningful (R56). -/
def RxState.holdsFrame : RxState → Bool
  | .readPayload | .readChecksum | .readEnd => true
  | .awaitStart | .readLength | .unused5 | .unused6 | .unused7 => false

/-- What R31 to R37 say of a ReceiverContext. -/
structure RxInv (s : State) : Prop where
  /-- No unused state code (R31). -/
  legal : s.rx.state.isUnused = false
  /-- rx_buf keeps its canonical form. -/
  buf : Buffer.wf s.rx.buf
  /-- rx_len holds 0..MAX_PAYLOAD (R33). -/
  len : s.rx.len.toNat ≤ s.cfg.maxPayload
  /-- Between frames there is no partial frame state (R160, R172, R175). -/
  idle : s.rx.state = .awaitStart → s.rx.chk = 0#8 ∧ s.rx.wcur = 0#8
  /-- After a rejection (R37). -/
  rejected : s.rx.outcome = .error → s.rx.state = .awaitStart ∧ s.rx.len = 0#8
  /-- After a delivery (R172, R163). -/
  delivered : s.rx.outcome = .success → s.rx.state = .awaitStart
  /-- rx_wcur is below rx_len in READ_PAYLOAD (R52). -/
  cursor : s.rx.state = .readPayload → s.rx.wcur < s.rx.len
  /-- Every payload byte is stored when the checksum is awaited (R169, R166). -/
  stored : s.rx.state = .readChecksum ∨ s.rx.state = .readEnd → s.rx.wcur = s.rx.len
  /-- The bytes below rx_wcur are written while a frame is in progress (R35). -/
  written : RxState.holdsFrame s.rx.state = true → ∀ i, i < s.rx.wcur.toNat → (Buffer.read i s.rx.buf).isSome = true
  /-- rx_chk is XorFold(LEN, the payload bytes received so far) (R34). -/
  chk : RxState.holdsFrame s.rx.state = true → s.rx.chk = checksum s.rx.len (rxBytes s.rx.buf s.rx.wcur.toNat)
  /-- The delivered payload is readable (R180). -/
  payload : s.rx.outcome = .success → ∀ i, i < s.rx.len.toNat → (Buffer.read i s.rx.buf).isSome = true

/-- What R38 to R48 say of a TransmitterContext. -/
structure TxInv (s : State) : Prop where
  /-- No unused state code (R38). -/
  legal : s.tx.state.isUnused = false
  /-- tx_payload is a byte list of length tx_plen, 0..255 (R39). -/
  plen : s.tx.payload.length = s.tx.plen.toNat
  /-- tx_frame and tx_flen once built (R40, R41, R71). -/
  frame : s.tx.built = true →
    ∃ bs, encodeFrame s.tx.payload = some bs ∧ s.tx.frame = Buffer.ofList bs ∧ s.tx.flen.toNat = bs.length
  /-- Before, tx_frame is unwritten and tx_flen, tx_cursor and tx_attempts hold what TX_START gave them (R40 to R43, R301). -/
  unbuilt : s.tx.built = false →
    s.tx.frame = [] ∧ s.tx.flen = 0#9 ∧ s.tx.cursor = 0#9 ∧ s.tx.attempts = 0#8 ∧ (s.tx.state = .init ∨ s.tx.state = .buildAndArm)
  /-- tx_cursor holds 0..tx_flen (R42). -/
  cursor : s.tx.cursor ≤ s.tx.flen
  /-- A byte is left to send in SENDING (R207, R208). -/
  sending : s.tx.state = .sending → s.tx.cursor < s.tx.flen
  /-- The whole frame is sent when a response is awaited (R208). -/
  awaiting : s.tx.state = .awaitResponse → s.tx.cursor = s.tx.flen
  /-- tx_attempts <= RETRY_LIMIT (R48). -/
  attempts : s.tx.attempts.toNat ≤ s.cfg.retryLimit
  /-- tx_wait_start has TICK_WIDTH bits (R44). -/
  wait : s.tx.waitStart < 2 ^ s.cfg.tickWidth
  /-- tx_outcome is written when a terminal state is entered (R45). -/
  outcome : s.tx.outcome =
    (if s.tx.state = .success then .success else if s.tx.state = .retryExhausted then .retryExhausted else .pending)

/-- What R49, R50, R54 and R77 say of the harness. -/
structure HarnessInv (s : State) : Prop where
  /-- The configuration is within its ranges (R240). -/
  range : s.cfg.InRange
  /-- The Clock has TICK_WIDTH bits (R49). -/
  clock : s.now < 2 ^ s.cfg.tickWidth
  /-- A queue holds 0..CHANNEL_CAPACITY bytes (R50). -/
  capacity : ∀ k : Queue, (s.bytes k).length ≤ s.cfg.capacity
  /-- A queue the topology does not have holds nothing (R12, R77). -/
  topology : ∀ k : Queue, k.isIn s.cfg.topology = false → s.bytes k = []

/-- The invariant of the whole machine. -/
structure State.Inv (s : State) : Prop where
  rx      : RxInv s
  tx      : TxInv s
  harness : HarnessInv s

/-- One RX_STEP for each byte of a list, in order (R125, R147). -/
def feedRx : List Byte → State → Res
  | [], s => .next s
  | b :: bs, s => andThen (execRxStep (some b) s) (feedRx bs)

/-- The step results of feeding a list, up to the first stop (R147). -/
def feedResults : List Byte → State → List OpResult
  | [], _ => []
  | b :: bs, s =>
    match execRxStep (some b) s with
    | .next t => t.result :: feedResults bs t
    | .fault _ => []
    | .refused _ => []

/-- The number of rounds after which the TX is terminal under DUPLEX, RELIABLE and without injected bytes (R311). -/
def roundBound (cfg : Cfg) (payloadLength : Nat) : Nat :=
  cfg.retryLimit * (payloadLength + 4 - 1 + max cfg.timeout 1) + 1

/-- The valid end of a SCHED_RUN: nothing faulted (R21, R247). DESIGN CHOICE (log entry 16): the TX is terminal as well, which
the spec does not ask, so a program that steps only the RX (PR-1) has no valid end in this sense. -/
def ValidEnd (s : State) : Prop := s.faulted = false ∧ s.tx.state.isTerminal = true

end Sys2Proof.Machine
end

