-- ==== Sys2Proof/Certificates/Slice0/Obligations.lean ====
section
/-! DEFINITION. The statements for the provers, from the numbered rules of spec/: encodings, codec, receiver, transmitter, harness, environment, and the invariants of the whole machine. -/

open Sys2Proof Sys2Proof.Machine

/-! ### Encoding and fetch -/

/-- The selector words the spec writes out (95_test_vectors V-R1, V-R2, V-R9, PR-1, PR-3, V-T1 to V-T7, V-T18) select the rows
it names, under every guards' values that meet the row's guard of R118. -/
def Obligations.KnownSelectorWordsDecode : Prop :=
  (∀ g : Guards, decode g 0x0102#16 = .instr .rxStart ∧ decode g 0x0103#16 = .instr (.rxStray 0x03#8)
    ∧ decode g 0x4103#16 = .instr .rxEndOk ∧ decode g 0x8000#16 = .instr .txInit
    ∧ decode g 0xB106#16 = .instr .txAwaitAck ∧ decode g 0xB115#16 = .instr .txAwaitNack
    ∧ decode g 0xB141#16 = .instr (.txAwaitStray 0x41#8) ∧ decode g 0xC000#16 = .instr (.txTerminal .success))
  ∧ (∀ g : Guards, decode g 0x1100#16 = .instr .rxLenZero)
  ∧ (∀ g : Guards, 3 ≤ g.maxPayload → decode g 0x1103#16 = .instr (.rxLen 0x03#8))
  ∧ (∀ g : Guards, g.maxPayload < 3 → decode g 0x1103#16 = .instr (.rxLenOversize 0x03#8))
  ∧ (∀ g : Guards, g.rxWcur + 1#8 < g.rxLen →
      decode g 0x2110#16 = .instr (.rxPayload 0x10#8) ∧ decode g 0x2120#16 = .instr (.rxPayload 0x20#8))
  ∧ (∀ g : Guards, g.rxWcur + 1#8 = g.rxLen → decode g 0x2130#16 = .instr (.rxPayloadLast 0x30#8))
  ∧ (∀ g : Guards, g.rxChk = 0x03#8 → decode g 0x3103#16 = .instr (.rxChkOk 0x03#8))
  ∧ (∀ g : Guards, g.rxChk ≠ 0xFC#8 → decode g 0x31FC#16 = .instr (.rxChkBad 0xFC#8))
  ∧ (∀ g : Guards, g.txAttempts.toNat < g.retryLimit → decode g 0x9000#16 = .instr .txBuildArm)
  ∧ (∀ g : Guards, g.retryLimit ≤ g.txAttempts.toNat → decode g 0x9000#16 = .instr .txBuildExhausted)
  ∧ (∀ g : Guards, g.txCursor + 1#9 < g.txFlen → decode g 0xA000#16 = .instr .txSend)
  ∧ (∀ g : Guards, g.txCursor + 1#9 = g.txFlen → decode g 0xA000#16 = .instr .txSendLast)
  ∧ (∀ g : Guards, g.elapsed < g.timeout → decode g 0xB000#16 = .instr .txAwaitWait)
  ∧ (∀ g : Guards, g.timeout ≤ g.elapsed → decode g 0xB000#16 = .instr .txAwaitTimeout)

/-- Decode of encode, every transition at every operand its word admits, under every guard that admits it (R115, R117, R118). -/
def Obligations.DecodeOfEncodeIsTheTransition : Prop :=
  ∀ (g : Guards) (i : Instr) (w : Tsel),
    i.wf = true → i.admitted g = true → encode i = some w → decode g w = .instr i

/-- Encode of decode, for every word a step can form (R115, R116). -/
def Obligations.EncodeOfDecodeIsTheFormedWord : Prop :=
  ∀ (g : Guards) (w : Tsel) (i : Instr), tselFormed w = true → decode g w = .instr i → encode i = some w

/-- R117: "A row matches when (TSEL & mask) == match and its guard holds", against the printed map of R118. -/
def Obligations.DecodeSelectsTheMatchingRow : Prop :=
  ∀ (g : Guards) (w : Tsel) (i : Instr),
    decode g w = .instr i ↔ tselReserved w = 0#3 ∧ ∃ r ∈ transitionMap, r.hits g w = true ∧ r.build w = i

/-- R117: in reachable register states exactly one row matches the word an engine forms. -/
def Obligations.ExactlyOneRowMatchesAFormedWord : Prop :=
  ∀ s : State, s.Inv →
    (∀ input, (transitionMap.filter fun r => r.hits (guardsOf s) (rxTsel input s)).length = 1)
    ∧ (transitionMap.filter fun r => r.hits (guardsOf s) (txTsel s)).length = 1

/-- R119: the reserved bits of TSEL, and only they, make the decoder refuse a word. -/
def Obligations.ReservedBitsSelectNothing : Prop :=
  ∀ (g : Guards) (w : Tsel), decode g w = .reserved ↔ tselReserved w ≠ 0#3

/-- A step runs the operation the next program entry stands for, on the state with that entry taken; a selector word
stands for the transition it decodes to, and stops the run where it selects none (R117, R119); with no entry left
nothing changes (log entry 8). -/
def Obligations.StepRunsTheFetchedOperation : Prop :=
  (∀ (s : State) (slot : Slot) (rest : List Slot) (i : Instr),
    s.program = slot :: rest → fetch slot s = .instr i → step s = exec i (s.withProgram rest))
  ∧ (∀ (s : State) (i : Instr), fetch (.op i) s = .instr i)
  ∧ (∀ (s : State) (w : Tsel) (i : Instr), decode (guardsOf s) w = .instr i → fetch (.tsel w) s = .instr i)
  ∧ (∀ (s : State) (w : Tsel) (rest : List Slot), s.program = .tsel w :: rest →
      (decode (guardsOf s) w = .reserved → step s = .refused .reservedSelector)
      ∧ (decode (guardsOf s) w = .noRow → step s = .fault .noRow))
  ∧ (∀ s : State, s.program = [] → step s = .next s)

/-! ### FrameCodec -/

/-- R140: the XOR-fold, its order-independence and its cancelling bytes. That DATA of another length than LEN is refused is
the model's choice (log entry 12). -/
def Obligations.ChecksumIsTheXorFold : Prop :=
  (∀ (len : Byte) (data : List Byte) (s : State), data.length = len.toNat →
    exec (.codecChecksum len data) s = .next { s with result := .checksum (data.foldl (fun c b => c ^^^ b) len) })
  ∧ (∀ (len : Byte) (data : List Byte) (s : State), data.length ≠ len.toNat →
    exec (.codecChecksum len data) s = .refused .lengthMismatch)
  ∧ (∀ (len : Byte) (d d' : List Byte), d.Perm d' → checksum len d = checksum len d')
  ∧ (∀ (len b : Byte) (d e : List Byte), checksum len (d ++ [b, b] ++ e) = checksum len (d ++ e))
  ∧ (∀ s : State, exec (.codecChecksum 0#8 []) s = .next { s with result := .checksum 0#8 })

/-- R141, R142, R278: the frame CODEC_ENCODE returns; a payload longer than 255 bytes has no step, nor has TX_START. -/
def Obligations.EncodeReturnsTheFrame : Prop :=
  ∀ (p : List Byte) (s : State),
    (p.length ≤ 255 → exec (.codecEncode p) s = .next { s with
      result := .frame ([0x02#8, BitVec.ofNat 8 p.length] ++ p
        ++ [p.foldl (fun c b => c ^^^ b) (BitVec.ofNat 8 p.length), 0x03#8]) })
    ∧ (255 < p.length →
      exec (.codecEncode p) s = .refused .payloadTooLong ∧ exec (.txStart p) s = .refused .payloadTooLong)

/-- R143: CODEC_VALIDATE recomputes the fold and compares; its DATA has length LEN. That DATA of another length is refused is
the model's choice (log entry 12). -/
def Obligations.ValidateComparesWithTheFold : Prop :=
  ∀ (len : Byte) (data : List Byte) (c : Byte) (s : State),
    (data.length = len.toNat → exec (.codecValidate len data c) s =
      .next { s with result := .valid (decide (data.foldl (fun x b => x ^^^ b) len = c)) })
    ∧ (data.length ≠ len.toNat → exec (.codecValidate len data c) s = .refused .lengthMismatch)

/-- R144: CODEC_DECODE returns the verdict; Ok exactly for the frames of payloads within MAX_PAYLOAD; and exactly when each
other verdict is returned. -/
def Obligations.DecodeAcceptsExactlyFrames : Prop :=
  (∀ (bs : List Byte) (s : State),
    exec (.codecDecode bs) s = .next { s with result := .decoded (decodeFrame s.cfg.maxPayload bs) })
  ∧ (∀ (maxPayload : Nat) (bs p : List Byte),
    decodeFrame maxPayload bs = .ok p ↔ p.length ≤ maxPayload ∧ encodeFrame p = some bs)
  ∧ (∀ (maxPayload : Nat) (bs : List Byte), decodeFrame maxPayload bs = .notAFrame ↔ bs.head? ≠ some 0x02#8)
  ∧ (∀ (maxPayload : Nat) (bs : List Byte), decodeFrame maxPayload bs = .oversizedFrame ↔
      ∃ len rest, bs = 0x02#8 :: len :: rest ∧ maxPayload < len.toNat)
  ∧ (∀ (maxPayload : Nat) (bs : List Byte), decodeFrame maxPayload bs = .incomplete ↔
      bs = [0x02#8] ∨ ∃ len rest, bs = 0x02#8 :: len :: rest ∧ len.toNat ≤ maxPayload
        ∧ (rest.length ≤ len.toNat ∨ ∃ d, d.length = len.toNat ∧ rest = d ++ [checksum len d]))
  ∧ (∀ (maxPayload : Nat) (bs : List Byte), decodeFrame maxPayload bs = .checksumMismatch ↔
      ∃ len d c rest, bs = 0x02#8 :: len :: (d ++ c :: rest) ∧ len.toNat ≤ maxPayload ∧ d.length = len.toNat
        ∧ c ≠ checksum len d)
  ∧ (∀ (maxPayload : Nat) (bs : List Byte), decodeFrame maxPayload bs = .framingError ↔
      ∃ len d e rest, bs = 0x02#8 :: len :: (d ++ checksum len d :: e :: rest) ∧ len.toNat ≤ maxPayload
        ∧ d.length = len.toNat ∧ e ≠ 0x03#8)
  ∧ (∀ (maxPayload : Nat) (bs : List Byte), decodeFrame maxPayload bs = .trailingBytes ↔
      ∃ p frame rest, p.length ≤ maxPayload ∧ encodeFrame p = some frame ∧ rest ≠ [] ∧ bs = frame ++ rest)

/-- R146: the round trip, and the verdict where the payload is longer than MAX_PAYLOAD. -/
def Obligations.DecodeOfEncodeIsThePayload : Prop :=
  ∀ (maxPayload : Nat) (p bs : List Byte), encodeFrame p = some bs →
    (p.length ≤ maxPayload → decodeFrame maxPayload bs = .ok p)
    ∧ (maxPayload < p.length → decodeFrame maxPayload bs = .oversizedFrame)

/-- R148: one changed DATA byte or a changed CHK is detected; the same bits flipped in two DATA bytes, or in one DATA
byte and CHK, are not. -/
def Obligations.ChecksumDetectsOneChangedByte : Prop :=
  ∀ (len c : Byte) (d : List Byte), validateChecksum len d c = true →
    (∀ (i : Nat) (h : i < d.length) (b : Byte), d[i] ≠ b → validateChecksum len (d.set i b) c = false)
    ∧ (∀ c' : Byte, c' ≠ c → validateChecksum len d c' = false)
    ∧ (∀ (i j : Nat) (hi : i < d.length) (hj : j < d.length) (x : Byte), i ≠ j →
        validateChecksum len ((d.set i (d[i] ^^^ x)).set j (d[j] ^^^ x)) c = true)
    ∧ (∀ (i : Nat) (h : i < d.length) (x : Byte), validateChecksum len (d.set i (d[i] ^^^ x)) (c ^^^ x) = true)

/-- R145: the codec has no state and no side effects: only the returned result appears, and it depends on the operands
and MAX_PAYLOAD alone. -/
def Obligations.CodecHasNoSideEffects : Prop :=
  ∀ (i : Instr) (s t u : State),
    ((∃ len d, i = .codecChecksum len d) ∨ (∃ p, i = .codecEncode p) ∨ (∃ len d c, i = .codecValidate len d c)
      ∨ ∃ bs, i = .codecDecode bs) →
    exec i s = .next t →
      t = { s with result := t.result }
      ∧ (u.cfg.maxPayload = s.cfg.maxPayload → exec i u = .next { u with result := t.result })

/-! ### ReceiverEngine -/

/-- R160: RX_CREATE. -/
def Obligations.RxCreateMakesTheContext : Prop :=
  ∀ s : State, exec .rxCreate s = .next { s with
    rx := { state := .awaitStart, buf := [], len := 0#8, chk := 0#8, wcur := 0#8, outcome := .pending }
    result := .nothing }

/-- R162, R163, R164: no byte, a start marker, and any other byte in AWAIT_START. -/
def Obligations.IdleStartAndStraySteps : Prop :=
  (∀ (c : RxState) (s : State), exec (.rxIdle c) s = .next { s with result := .rx .none })
  ∧ (∀ s : State, s.rx.state = .awaitStart →
      exec .rxStart s = .next { s with
        rx := { s.rx with state := .readLength, chk := 0#8, wcur := 0#8, outcome := .pending }
        result := .rx .none })
  ∧ (∀ (b : Byte) (s : State), s.rx.state = .awaitStart → b ≠ 0x02#8 →
      exec (.rxStray b) s = .next { s with result := .rx .none })

/-- R165, R166, R167: the LEN byte. -/
def Obligations.LengthByteSteps : Prop :=
  ∀ s : State, s.rx.state = .readLength →
    (∀ b : Byte, s.cfg.maxPayload < b.toNat →
      exec (.rxLenOversize b) s = .next { s with
        rx := { s.rx with state := .awaitStart, len := 0#8, chk := 0#8, wcur := 0#8, outcome := .error }
        history := s.history ++ [.reject .oversizedFrame]
        result := .rx (.rejected .oversizedFrame) })
    ∧ exec .rxLenZero s = .next { s with
        rx := { s.rx with len := 0#8, chk := 0#8, wcur := 0#8, state := .readChecksum }, result := .rx .none }
    ∧ (∀ b : Byte, 1 ≤ b.toNat → b.toNat ≤ s.cfg.maxPayload →
        exec (.rxLen b) s = .next { s with
          rx := { s.rx with len := b, chk := b, wcur := 0#8, state := .readPayload }, result := .rx .none })

/-- R168, R169: a DATA byte is stored at rx_wcur and folded in; every other byte of rx_buf reads as before. The
premise `rx_wcur < MAX_PAYLOAD` says the index is one of rx_buf (R32); it holds under the invariant, and without it the
machine stops. -/
def Obligations.PayloadByteSteps : Prop :=
  ∀ (b : Byte) (s : State), s.rx.state = .readPayload →
    (s.rx.wcur.toNat < s.cfg.maxPayload → s.rx.wcur + 1#8 < s.rx.len → ∃ buf,
      exec (.rxPayload b) s = .next { s with
        rx := { s.rx with buf := buf, chk := s.rx.chk ^^^ b, wcur := s.rx.wcur + 1#8 }, result := .rx .none }
      ∧ Buffer.read s.rx.wcur.toNat buf = some b
      ∧ ∀ i, i ≠ s.rx.wcur.toNat → Buffer.read i buf = Buffer.read i s.rx.buf)
    ∧ (s.rx.wcur.toNat < s.cfg.maxPayload → s.rx.wcur + 1#8 = s.rx.len → ∃ buf,
      exec (.rxPayloadLast b) s = .next { s with
        rx := { s.rx with buf := buf, chk := s.rx.chk ^^^ b, wcur := s.rx.wcur + 1#8, state := .readChecksum }
        result := .rx .none }
      ∧ Buffer.read s.rx.wcur.toNat buf = some b
      ∧ ∀ i, i ≠ s.rx.wcur.toNat → Buffer.read i buf = Buffer.read i s.rx.buf)
    ∧ (s.cfg.maxPayload ≤ s.rx.wcur.toNat →
      (s.rx.wcur + 1#8 < s.rx.len → exec (.rxPayload b) s = .fault .bufferRange)
      ∧ (s.rx.wcur + 1#8 = s.rx.len → exec (.rxPayloadLast b) s = .fault .bufferRange))

/-- R170, R171: the CHK byte; under the invariant the comparison is CODEC_VALIDATE's on rx_len and rx_buf[0..rx_len). -/
def Obligations.ChecksumByteSteps : Prop :=
  ∀ (b : Byte) (s : State), s.rx.state = .readChecksum →
    (b = s.rx.chk → exec (.rxChkOk b) s = .next { s with rx := { s.rx with state := .readEnd }, result := .rx .none })
    ∧ (b ≠ s.rx.chk → exec (.rxChkBad b) s = .next { s with
        rx := { s.rx with state := .awaitStart, len := 0#8, chk := 0#8, wcur := 0#8, outcome := .error }
        history := s.history ++ [.reject .checksumMismatch]
        result := .rx (.rejected .checksumMismatch) })
    ∧ (RxInv s → (b = s.rx.chk ↔ validateChecksum s.rx.len (rxBytes s.rx.buf s.rx.len.toNat) b = true))

/-- R172, R173: the byte after CHK. The premise `rx_len <= MAX_PAYLOAD` says rx_buf[0..rx_len) lies in rx_buf (R32,
R33); it holds under the invariant. -/
def Obligations.EndByteSteps : Prop :=
  ∀ s : State, s.rx.state = .readEnd →
    (s.rx.len.toNat ≤ s.cfg.maxPayload → ∃ t,
      exec .rxEndOk s = .next t
      ∧ t = { s with
          rx := { s.rx with outcome := .success, state := .awaitStart, chk := 0#8, wcur := 0#8 }
          chan := (send s.cfg.topology.responses 0x06#8 s).chan
          env := (send s.cfg.topology.responses 0x06#8 s).env
          history := (send s.cfg.topology.responses 0x06#8 s).history
            ++ [.ackSent, .deliver (rxBytes s.rx.buf s.rx.len.toNat)]
          result := .rx .delivered })
    ∧ (s.cfg.maxPayload < s.rx.len.toNat → exec .rxEndOk s = .fault .bufferRange)
    ∧ (∀ b : Byte, b ≠ 0x03#8 → exec (.rxEndBad b) s = .next { s with
        rx := { s.rx with state := .awaitStart, len := 0#8, chk := 0#8, wcur := 0#8, outcome := .error }
        history := s.history ++ [.reject .framingError]
        result := .rx (.rejected .framingError) })

/-- R174, R119, R277: an unused RX state code: a byte raises IllegalState, which sets `faulted` and nothing else; no byte
is a no-op. -/
def Obligations.UnusedRxCodesRaise : Prop :=
  ∀ (c : RxState) (b : Byte) (s : State), c.isUnused = true → s.rx.state = c →
    exec (.rxIllegal c b) s = .next { s with faulted := true, result := .raised .illegalState }
    ∧ exec (.rxStep (some b)) s = .next { s with faulted := true, result := .raised .illegalState }
    ∧ exec (.rxStep none) s = .next { s with result := .rx .none }

/-- R161: RxStep(in) is the transition of the matching row, applied once. -/
def Obligations.RxStepAppliesTheMatchingRow : Prop :=
  ∀ (input : Option Byte) (s : State) (i : Instr),
    decode (guardsOf s) (rxTsel input s) = .instr i → exec (.rxStep input) s = exec i s

/-- R161: in every state that meets the receiver's invariant RX_STEP completes with a step result. -/
def Obligations.RxStepCompletes : Prop :=
  ∀ (input : Option Byte) (s : State), RxInv s → ∃ t r, exec (.rxStep input) s = .next t ∧ t.result = .rx r

/-- R175, R37: what every rejecting step leaves. -/
def Obligations.RejectionLeavesNoPartialFrame : Prop :=
  ∀ (input : Option Byte) (s t : State) (reason : RejectReason),
    exec (.rxStep input) s = .next t → t.result = .rx (.rejected reason) →
      t = { s with
        rx := { s.rx with state := .awaitStart, len := 0#8, chk := 0#8, wcur := 0#8, outcome := .error }
        history := s.history ++ [.reject reason]
        result := .rx (.rejected reason) }

/-- R176, R177: the RX sends one ACK in a delivering step and nothing in any other. -/
def Obligations.RxSendsOnlyTheAckOfADelivery : Prop :=
  ∀ (input : Option Byte) (s t : State), exec (.rxStep input) s = .next t →
    (t.result = .rx .delivered ∧ t.chan = (send s.cfg.topology.responses 0x06#8 s).chan
      ∧ ∃ p, t.history = (send s.cfg.topology.responses 0x06#8 s).history ++ [.ackSent, .deliver p])
    ∨ (t.result ≠ .rx .delivered ∧ t.chan = s.chan ∧ t.env = s.env ∧ ∀ e ∈ t.history.drop s.history.length, e ≠ .ackSent)

/-- R147: the receiver fed a byte list from AWAIT_START agrees with Decode. The position Decode found bad is 1 for LEN,
LEN + 2 for CHK, LEN + 3 for ETX. -/
def Obligations.ReceiverAgreesWithDecode : Prop :=
  ∀ (bs : List Byte) (s : State), s.rx.state = .awaitStart →
    (∀ p, decodeFrame s.cfg.maxPayload bs = .ok p →
      feedResults bs s = List.replicate (bs.length - 1) (.rx .none) ++ [.rx .delivered]
      ∧ ∃ t h, feedRx bs s = .next t ∧ t.history = h ++ [.deliver p] ∧ rxBytes t.rx.buf t.rx.len.toNat = p
          ∧ t.rx.state = .awaitStart)
    ∧ (∀ (reason : RejectReason) (k : Nat),
      (decodeFrame s.cfg.maxPayload bs = .oversizedFrame ∧ reason = .oversizedFrame ∧ k = 1
        ∨ decodeFrame s.cfg.maxPayload bs = .checksumMismatch ∧ reason = .checksumMismatch
            ∧ k = (bs.getD 1 0#8).toNat + 2
        ∨ decodeFrame s.cfg.maxPayload bs = .framingError ∧ reason = .framingError
            ∧ k = (bs.getD 1 0#8).toNat + 3) →
      k < bs.length
      ∧ feedResults (bs.take (k + 1)) s = List.replicate k (.rx .none) ++ [.rx (.rejected reason)])
    ∧ (decodeFrame s.cfg.maxPayload bs = .incomplete →
      feedResults bs s = List.replicate bs.length (.rx .none)
      ∧ ∃ t, feedRx bs s = .next t ∧ t.rx.state =
          (if bs.length = 1 then .readLength
           else if bs.length < (bs.getD 1 0#8).toNat + 2 then .readPayload
           else if bs.length = (bs.getD 1 0#8).toNat + 2 then .readChecksum
           else .readEnd))

/-- R181: whatever bytes arrive, the receiver is back in AWAIT_START within 258 of them. -/
def Obligations.ReceiverResynchronisesWithin258Bytes : Prop :=
  ∀ (bs : List Byte) (s : State), RxInv s → bs.length = 258 →
    ∃ k t, k ≤ 258 ∧ feedRx (bs.take k) s = .next t ∧ t.rx.state = .awaitStart

/-! ### TransmitterEngine -/

/-- R200: TX_START captures the payload; a live context refuses it, and so does a payload longer than 255 bytes. -/
def Obligations.TxStartCapturesThePayload : Prop :=
  ∀ (p : List Byte) (s : State),
    (255 < p.length → exec (.txStart p) s = .refused .payloadTooLong)
    ∧ (p.length ≤ 255 → s.txLive = true → exec (.txStart p) s = .refused .contextLive)
    ∧ (p.length ≤ 255 → s.txLive = false → exec (.txStart p) s = .next { s with
      tx := { state := .init, payload := p, plen := BitVec.ofNat 8 p.length, frame := [], flen := 0#9, cursor := 0#9
              attempts := 0#8, waitStart := 0, outcome := .pending, built := false }
      txLive := true
      result := .nothing })

/-- R219: TX_DESTROY clears tx_live in a terminal state and is refused in any other. -/
def Obligations.TxDestroyNeedsATerminalState : Prop :=
  ∀ s : State,
    (s.tx.state = .success ∨ s.tx.state = .retryExhausted →
      exec .txDestroy s = .next { s with txLive := false, result := .nothing })
    ∧ (s.tx.state ≠ .success → s.tx.state ≠ .retryExhausted → exec .txDestroy s = .refused .contextLive)

/-- R202; and R203, R204, R205 with the frame already built: arm while attempts are left, else RETRY_EXHAUSTED. -/
def Obligations.InitAndLaterBuildAndArmSteps : Prop :=
  ∀ s : State,
    (s.tx.state = .init →
      exec .txInit s = .next { s with tx := { s.tx with state := .buildAndArm }, result := .txContinue })
    ∧ (s.tx.state = .buildAndArm → s.tx.built = true → s.tx.attempts.toNat < s.cfg.retryLimit →
      exec .txBuildArm s = .next { s with
        tx := { s.tx with attempts := s.tx.attempts + 1#8, cursor := 0#9, state := .sending }, result := .txContinue })
    ∧ (s.tx.state = .buildAndArm → s.tx.built = true → s.cfg.retryLimit ≤ s.tx.attempts.toNat →
      exec .txBuildExhausted s = .next { s with
        tx := { s.tx with state := .retryExhausted, outcome := .retryExhausted }
        history := s.history ++ [.txDone .retryExhausted]
        result := .tx .done })

/-- R203, R204, R205 on the first entry: the frame of the captured payload is built, the attempt count starts at 0; a payload
longer than 255 bytes, which no rule puts there, is refused (R142). -/
def Obligations.FirstBuildAndArmSteps : Prop :=
  ∀ (s : State) (bs : List Byte), s.tx.state = .buildAndArm → s.tx.built = false →
    (encodeFrame s.tx.payload = some bs → 0 < s.cfg.retryLimit → ∃ frame, exec .txBuildArm s = .next { s with
        tx := { s.tx with frame := frame, flen := s.tx.plen.zeroExtend 9 + 4#9, attempts := 1#8, built := true
                          cursor := 0#9, state := .sending }
        result := .txContinue }
      ∧ ∀ j, Buffer.read j frame = bs[j]?)
    ∧ (encodeFrame s.tx.payload = some bs → s.cfg.retryLimit = 0 → ∃ frame, exec .txBuildExhausted s = .next { s with
        tx := { s.tx with frame := frame, flen := s.tx.plen.zeroExtend 9 + 4#9, attempts := 0#8, built := true
                          state := .retryExhausted, outcome := .retryExhausted }
        history := s.history ++ [.txDone .retryExhausted]
        result := .tx .done }
      ∧ ∀ j, Buffer.read j frame = bs[j]?)
    ∧ (255 < s.tx.payload.length →
      exec .txBuildArm s = .refused .payloadTooLong ∧ exec .txBuildExhausted s = .refused .payloadTooLong)

/-- R207, R208: frame byte tx_cursor is sent and tx_cursor advances; the last one starts the wait. The byte sent is a
written one of tx_frame (R40: at most 259 bytes); under the invariant it is. Past the array the machine stops, the
model's choice, in states no rule reaches. -/
def Obligations.SendSteps : Prop :=
  (∀ (s : State) (b : Byte), s.tx.state = .sending → Buffer.read s.tx.cursor.toNat s.tx.frame = some b →
    (s.tx.cursor.toNat < 259 → s.tx.cursor + 1#9 < s.tx.flen → exec .txSend s = .next { s with
      tx := { s.tx with cursor := s.tx.cursor + 1#9 }
      chan := (send s.cfg.topology.frames b s).chan
      env := (send s.cfg.topology.frames b s).env
      history := (send s.cfg.topology.frames b s).history ++ [.txByte b]
      result := .tx .running })
    ∧ (s.tx.cursor.toNat < 259 → s.tx.cursor + 1#9 = s.tx.flen → exec .txSendLast s = .next { s with
      tx := { s.tx with cursor := s.tx.cursor + 1#9, waitStart := s.now, state := .awaitResponse }
      chan := (send s.cfg.topology.frames b s).chan
      env := (send s.cfg.topology.frames b s).env
      history := (send s.cfg.topology.frames b s).history ++ [.txByte b]
      result := .tx .running }))
  ∧ (∀ s : State, s.tx.state = .sending → 259 ≤ s.tx.cursor.toNat →
      (s.tx.cursor + 1#9 < s.tx.flen → exec .txSend s = .fault .bufferRange)
      ∧ (s.tx.cursor + 1#9 = s.tx.flen → exec .txSendLast s = .fault .bufferRange))

/-- R209, R210, R211: the polled byte leaves Q_TX_IN; ACK ends in SUCCESS, NACK goes back to BUILD_AND_ARM, any other
byte is discarded. -/
def Obligations.ResponseByteSteps : Prop :=
  ∀ (s : State) (b : Byte) (rest : List Byte), s.tx.state = .awaitResponse →
    s.bytes s.cfg.topology.responses = b :: rest →
    (b = 0x06#8 → exec .txAwaitAck s = .next { s with
      tx := { s.tx with state := .success, outcome := .success }
      chan := (s.withBytes s.cfg.topology.responses rest).chan
      history := s.history ++ [.txDone .success]
      result := .tx .done })
    ∧ (b = 0x15#8 → exec .txAwaitNack s = .next { s with
      tx := { s.tx with state := .buildAndArm }
      chan := (s.withBytes s.cfg.topology.responses rest).chan
      result := .tx .running })
    ∧ (b ≠ 0x06#8 → b ≠ 0x15#8 → exec (.txAwaitStray b) s = .next { s with
      chan := (s.withBytes s.cfg.topology.responses rest).chan
      result := .tx .running })

/-- R212, R213: no byte: the timeout test alone decides. -/
def Obligations.SilenceSteps : Prop :=
  ∀ s : State, s.tx.state = .awaitResponse → s.bytes s.cfg.topology.responses = [] →
    (s.cfg.timeout ≤ elapsed s → exec .txAwaitTimeout s = .next { s with
      tx := { s.tx with state := .buildAndArm }, result := .txContinue })
    ∧ (elapsed s < s.cfg.timeout → exec .txAwaitWait s = .next { s with result := .tx .running })

/-- R215, R216, R277: terminal states are never left; an unused TX state code raises IllegalState. -/
def Obligations.TerminalAndUnusedTxCodes : Prop :=
  ∀ (c : TxState) (s : State), s.tx.state = c →
    (c.isTerminal = true → exec (.txTerminal c) s = .next { s with result := .tx .done }
      ∧ exec .txStep s = .next { s with result := .tx .done })
    ∧ (c.isUnused = true → exec (.txIllegal c) s = .next { s with faulted := true, result := .raised .illegalState }
      ∧ exec .txStep s = .next { s with faulted := true, result := .raised .illegalState })

/-- R201: one TX step runs transitions one after another until one returns. -/
def Obligations.TxStepChainsTransitions : Prop :=
  ∀ (s t : State) (i : Instr), decode (guardsOf s) (txTsel s) = .instr i → exec i s = .next t →
    (t.result ≠ .txContinue → exec .txStep s = .next t)
    ∧ (t.result = .txContinue → exec .txStep s = exec .txStep t)

/-- R201: in every state that meets the transmitter's invariant TX_STEP completes with RUNNING or DONE. -/
def Obligations.TxStepCompletes : Prop :=
  ∀ s : State, TxInv s → ∃ t r, exec .txStep s = .next t ∧ t.result = .tx r

/-- R202, R203, R205, R207: a TX step from INIT builds, arms and sends STX, all in the one step (vector V-T1). -/
def Obligations.FirstTxStepSendsStx : Prop :=
  ∀ s : State, TxInv s → s.tx.state = .init → s.tx.built = false → 0 < s.cfg.retryLimit →
    ∃ t, exec .txStep s = .next t ∧ t.result = .tx .running ∧ t.tx.state = .sending ∧ t.tx.attempts = 1#8
      ∧ t.tx.cursor = 1#9 ∧ t.tx.built = true ∧ t.chan = (send s.cfg.topology.frames 0x02#8 s).chan
      ∧ t.history = (send s.cfg.topology.frames 0x02#8 s).history ++ [.txByte 0x02#8]

/-- R214, R282 (a): a polled byte decides the step whatever the elapsed time. -/
def Obligations.ReceivedByteBeatsTheTimeout : Prop :=
  ∀ (s : State) (b : Byte) (rest : List Byte), s.tx.state = .awaitResponse →
    s.bytes s.cfg.topology.responses = b :: rest →
    ∃ t, exec .txStep s = .next t ∧ t.bytes s.cfg.topology.responses = rest
      ∧ t.tx.attempts = s.tx.attempts ∧ t.tx.waitStart = s.tx.waitStart ∧ t.tx.cursor = s.tx.cursor
      ∧ (b = 0x06#8 → t.tx.state = .success ∧ t.tx.outcome = .success ∧ t.result = .tx .done)
      ∧ (b = 0x15#8 → t.tx.state = .buildAndArm ∧ t.tx.outcome = s.tx.outcome ∧ t.result = .tx .running)
      ∧ (b ≠ 0x06#8 → b ≠ 0x15#8 → t.tx = s.tx ∧ t.result = .tx .running)

/-- R217: a TX step makes at most one Send, or at most one Receive that returns a byte, never both. -/
def Obligations.TxStepMovesAtMostOneByte : Prop :=
  ∀ s t : State, exec .txStep s = .next t →
    (t.chan = s.chan ∧ ∀ e ∈ t.history.drop s.history.length, e.sentByte = none)
    ∨ (∃ b, t.chan = (send s.cfg.topology.frames b s).chan
        ∧ t.history = (send s.cfg.topology.frames b s).history ++ [.txByte b])
    ∨ (received s.cfg.topology.responses s ≠ none ∧ t.chan = (receive s.cfg.topology.responses s).chan
        ∧ ∀ e ∈ t.history.drop s.history.length, e.sentByte = none)

/-- R39, R73, R87, R218: nothing but TX_START and HARNESS_CREATE (log entry 4) writes the captured payload, and once
built tx_frame is not rewritten while its context lives. -/
def Obligations.PayloadAndBuiltFrameAreFixed : Prop :=
  ∀ (i : Instr) (s t : State), (∀ p, i ≠ .txStart p) → (∀ c, i ≠ .harnessCreate c) → exec i s = .next t →
    t.tx.payload = s.tx.payload ∧ t.tx.plen = s.tx.plen
    ∧ (s.tx.built = true → t.tx.built = true ∧ t.tx.frame = s.tx.frame ∧ t.tx.flen = s.tx.flen)

/-- R221, R314: Elapsed() counts the ticks since the wait began, across a wrap of the Clock, while they are fewer than
2^TICK_WIDTH. -/
def Obligations.ElapsedCountsAcrossOneWrap : Prop :=
  ∀ (s : State) (k : Nat), s.tx.waitStart < 2 ^ s.cfg.tickWidth → k < 2 ^ s.cfg.tickWidth →
    s.now = (s.tx.waitStart + k) % 2 ^ s.cfg.tickWidth → elapsed s = k

/-- R48: the attempt count never exceeds the retry limit. HARNESS_CREATE sets it to 0: the model's choice (log entry 4). -/
def Obligations.AttemptsNeverExceedTheRetryLimit : Prop :=
  ∀ s t : State, s.tx.attempts.toNat ≤ s.cfg.retryLimit → step s = .next t → t.tx.attempts.toNat ≤ t.cfg.retryLimit

/-! ### Harness, Channel, environment -/

/-- R240: what HARNESS_CREATE leaves within the ranges; outside them it is refused. -/
def Obligations.HarnessCreateMakesTheHarness : Prop :=
  ∀ (c : Cfg) (s : State),
    (1 ≤ c.tickWidth ∧ c.timeout < 2 ^ c.tickWidth ∧ c.retryLimit ≤ 255 ∧ c.maxPayload ≤ 255 ∧ 1 ≤ c.capacity → ∃ t,
      exec (.harnessCreate c) s = .next t ∧ t.cfg = c ∧ (∀ k, t.bytes k = [] ∧ (t.chan.fifo k).dropNext = false) ∧ t.now = 0 ∧ t.faulted = false
      ∧ t.txLive = false
      ∧ t.rx = { state := .awaitStart, buf := [], len := 0#8, chk := 0#8, wcur := 0#8, outcome := .pending }
      ∧ t.program = s.program ∧ t.history = s.history ∧ t.env = s.env)
    ∧ (¬ (1 ≤ c.tickWidth ∧ c.timeout < 2 ^ c.tickWidth ∧ c.retryLimit ≤ 255 ∧ c.maxPayload ≤ 255 ∧ 1 ≤ c.capacity) →
      exec (.harnessCreate c) s = .refused .badConfiguration)

/-- R243, R244, R245, R248, R249: a round completes, and is the RX's step on the byte received (if enabled), then the
TX's step (if a context is live), then one tick, with the environment's insertion points around the steps. One insertion
point lies between the round's Receive and the RX's step. That a LOSSY environment's insertions (R82 (c), R243) come at these
four points, one draw for each, is the model's choice (log entry 7). -/
def Obligations.RoundStepsReceiverThenTransmitterThenClock : Prop :=
  ∀ (en : Bool) (s : State), s.Inv → ∃ s1 s2 t,
    (en = true → exec (.rxStep (received s.cfg.topology.frames (insertionPoint s)))
        (insertionPoint (receive s.cfg.topology.frames (insertionPoint s))) = .next s1)
    ∧ (en = false → s1 = { insertionPoint s with result := .nothing })
    ∧ (s.txLive = true → exec .txStep (insertionPoint s1) = .next s2)
    ∧ (s.txLive = false → s2 = { insertionPoint s1 with result := .nothing })
    ∧ exec (.schedRound en) s = .next t
    ∧ t = { insertionPoint s2 with
        now := (s.now + 1) % 2 ^ s.cfg.tickWidth
        result := .round s1.result.rxPart s2.result.txPart }

/-- R242: the Clock advances by one in every round that completes, and nothing else writes it. -/
def Obligations.ClockAdvancesOnlyInRounds : Prop :=
  ∀ (i : Instr) (s t : State), exec i s = .next t →
    ((∃ en, i = .schedRound en) → t.raised = false → t.now = (s.now + 1) % 2 ^ s.cfg.tickWidth)
    ∧ ((∃ n en, i = .schedRun n en) → t.raised = false → s.now < 2 ^ s.cfg.tickWidth → t.now = (s.now + t.iter) % 2 ^ s.cfg.tickWidth)
    ∧ ((∀ en, i ≠ .schedRound en) → (∀ n en, i ≠ .schedRun n en) → (∀ c, i ≠ .harnessCreate c) → t.now = s.now)

/-- R246, R247: under the invariant and with a live context a run completes, TERMINAL or BUDGET_EXHAUSTED; on a terminal
TX it runs no round; with another it runs SCHED_ROUND, enabled as the list says for this round (1 past its end), then the rest
of the budget; with no budget it writes iter, run_status, faulted and the event and leaves every other field (R251: the
Channel, the Clock and the RX persist); without a context it is refused. -/
def Obligations.RunEndsTerminalOrExhausted : Prop :=
  ∀ (n : Nat) (en : List Bool) (s : State),
    (s.Inv → s.txLive = true → ∃ t, exec (.schedRun n en) s = .next t ∧ t.result = .run t.runStatus t.iter
      ∧ ((t.tx.state.isTerminal = true ∧ t.runStatus = .terminal ∧ t.iter ≤ n ∧ t.faulted = s.faulted)
        ∨ (t.tx.state.isTerminal = false ∧ t.runStatus = .budgetExhausted ∧ t.iter = n ∧ t.faulted = true
            ∧ ∃ h, t.history = h ++ [.harnessFault .budgetExhausted])))
    ∧ (s.Inv → s.txLive = true → s.tx.state.isTerminal = false → ∃ u t,
        exec (.schedRound (en.headD true)) s = .next u ∧ exec (.schedRun n en.tail) u = .next t
        ∧ exec (.schedRun (n + 1) en) s =
            .next { t with iter := t.iter + 1, result := .run t.runStatus (t.iter + 1) })
    ∧ (s.txLive = true → s.tx.state.isTerminal = true →
        exec (.schedRun n en) s = .next { s with iter := 0, runStatus := .terminal, result := .run .terminal 0 })
    ∧ (s.txLive = true → s.tx.state.isTerminal = false →
        exec (.schedRun 0 en) s = .next { s with
          iter := 0
          runStatus := .budgetExhausted
          faulted := true
          history := s.history ++ [.harnessFault .budgetExhausted]
          result := .run .budgetExhausted 0 })
    ∧ (s.txLive = false → exec (.schedRun n en) s = .refused .noTransmitter)

/-- R311: under DUPLEX and RELIABLE with nothing but ACKs in REV, a new message is terminal within the bound, whatever
the RX does and in whatever rounds it is enabled. Under LOSSY no bound exists (R309, R311): in some state of the invariant
insertions hold the TX in AWAIT_RESPONSE for every number of rounds (a steady environment, log entry 7). -/
def Obligations.RunIsTerminalWithinTheBound : Prop :=
  (∀ (n : Nat) (en : List Bool) (s : State), s.Inv → s.txLive = true → s.cfg.topology = .duplex →
    s.cfg.env = .reliable → (∀ b ∈ s.bytes .rev, b = 0x06#8) → s.tx.state = .init → s.tx.built = false →
    roundBound s.cfg s.tx.payload.length ≤ n →
    ∃ t, exec (.schedRun n en) s = .next t ∧ t.runStatus = .terminal ∧ t.tx.state.isTerminal = true
      ∧ t.iter ≤ roundBound s.cfg s.tx.payload.length)
  ∧ ∃ s : State, s.Inv ∧ s.txLive = true ∧ s.cfg.topology = .duplex ∧ s.cfg.env = .lossy ∧
      ∀ n : Nat, ∃ t, exec (.schedRun n []) s = .next t ∧ t.runStatus = .budgetExhausted
        ∧ t.tx.state = .awaitResponse

/-- R318: over an idle DUPLEX, RELIABLE channel a message within MAX_PAYLOAD is delivered and acknowledged in its first
attempt, and the run returns after n + 1 rounds, n = LEN + 4. -/
def Obligations.MessageIsDeliveredEndToEnd : Prop :=
  ∀ (n : Nat) (s : State), s.Inv → s.txLive = true → s.cfg.topology = .duplex → s.cfg.env = .reliable →
    0 < s.cfg.retryLimit → s.bytes .fwd = [] → s.bytes .rev = [] → s.rx.state = .awaitStart →
    s.tx.state = .init → s.tx.built = false → s.tx.payload.length ≤ s.cfg.maxPayload →
    s.tx.payload.length + 5 ≤ n →
    ∃ t, exec (.schedRun n []) s = .next t ∧ t.runStatus = .terminal ∧ t.iter = s.tx.payload.length + 5
      ∧ t.tx.state = .success ∧ t.tx.attempts = 1#8 ∧ t.rx.outcome = .success
      ∧ rxBytes t.rx.buf t.rx.len.toNat = s.tx.payload ∧ t.bytes .fwd = [] ∧ t.bytes .rev = []
      ∧ t.now = (s.now + s.tx.payload.length + 5) % 2 ^ s.cfg.tickWidth

/-- R75, R78: a Send under RELIABLE appends at the tail, or drops the byte with a Drop event on a full queue. -/
def Obligations.SendAppendsOrDrops : Prop :=
  ∀ (k : Queue) (b : Byte) (s : State), s.cfg.env = .reliable →
    ((s.bytes k).length < s.cfg.capacity →
      (send k b s).bytes k = s.bytes k ++ [b] ∧ (∀ j, j ≠ k → (send k b s).bytes j = s.bytes j)
        ∧ send k b s = { s with chan := (send k b s).chan })
    ∧ (s.cfg.capacity ≤ (s.bytes k).length → send k b s = { s with history := s.history ++ [.drop k b] })

/-- R76, R84: a Receive gives and removes the oldest byte, or gives none and changes nothing; other queues are unchanged, and
so is a DROPNEXT that waits on the queue: R82 (a) and R124 speak of the next Send only, and the mark that holds it is the
model's (log entry 5). -/
def Obligations.ReceiveTakesTheOldestByte : Prop :=
  ∀ (k : Queue) (s : State),
    (s.bytes k = [] → received k s = none ∧ receive k s = s)
    ∧ (∀ b rest, s.bytes k = b :: rest → received k s = some b ∧ (receive k s).bytes k = rest
        ∧ ((receive k s).chan.fifo k).dropNext = (s.chan.fifo k).dropNext
        ∧ (∀ j, j ≠ k → (receive k s).chan.fifo j = s.chan.fifo j) ∧ receive k s = { s with chan := (receive k s).chan })

/-- R82 (a), (b), R78: under LOSSY a Send to a queue with room does what the environment's next action says, a pending
DROPNEXT first; a Send to a full queue drops the byte with a Drop event. Either way the DROPNEXT of the queue and one action
are used up, the model's choice (log entry 5), and nothing else changes. The next action is the next one listed, or, with none
listed, the steady one or a free value (log entry 7). -/
def Obligations.LossyEnvironmentActsOnASend : Prop :=
  ∀ (k : Queue) (b : Byte) (s : State), s.cfg.env = .lossy →
    ((s.bytes k).length < s.cfg.capacity →
      (send k b s).history = s.history
      ∧ (send k b s).bytes k =
        (if (s.chan.fifo k).dropNext then s.bytes k
         else match s.env.nextSend with
           | .pass => s.bytes k ++ [b]
           | .drop => s.bytes k
           | .corrupt c => s.bytes k ++ [c]))
    ∧ (s.cfg.capacity ≤ (s.bytes k).length →
      (send k b s).history = s.history ++ [.drop k b] ∧ (send k b s).bytes k = s.bytes k)
    ∧ ((send k b s).chan.fifo k).dropNext = false
    ∧ (∀ j, j ≠ k → (send k b s).chan.fifo j = s.chan.fifo j)
    ∧ send k b s = { s with
        chan := (send k b s).chan, history := (send k b s).history, env := s.env.afterSend }
    ∧ (∀ act rest, s.env.sends = act :: rest →
        s.env.nextSend = act ∧ s.env.afterSend = { s.env with sends := rest })
    ∧ (∀ act l, s.env.sends = [] → s.env.endless = .steady act l →
        s.env.nextSend = act ∧ s.env.afterSend = s.env)
    ∧ (∀ n, s.env.sends = [] → s.env.endless = .free n →
        s.env.nextSend = Config.freeSendAct n ∧ s.env.afterSend = { s.env with endless := .free (n + 1) })

/-- The environment's actions outside a Send. R124, R82 (a), (c): under LOSSY INJECT appends to a queue of the topology that
has room and DROPNEXT marks a queue of the topology. R82, R50: under RELIABLE neither action occurs, and both operations
change nothing on a queue of the topology; that they complete is the model's reading (log entry 15). An absent queue, and
under LOSSY a full one for INJECT, are refused, the model's choice (log entry 13).
R82 (c), R243: an insertion point of a round does nothing under RELIABLE; under LOSSY it appends the bytes its draw names to
the queues of the topology, in order, as far as there is room, uses up one draw and changes nothing else; the draw is the next
one listed, or, with none listed, the steady one or a free value (the model's way of holding it, log entry 7). -/
def Obligations.EnvironmentOperations : Prop :=
  (∀ (k : Queue) (b : Byte) (s : State), s.cfg.env = .lossy →
    (k.isIn s.cfg.topology = true → (s.bytes k).length < s.cfg.capacity → ∃ t, exec (.envInject k b) s = .next t
      ∧ t.bytes k = s.bytes k ++ [b] ∧ (t.chan.fifo k).dropNext = (s.chan.fifo k).dropNext
      ∧ (∀ j, j ≠ k → t.chan.fifo j = s.chan.fifo j) ∧ t = { s with chan := t.chan, result := .nothing })
    ∧ (k.isIn s.cfg.topology = true → ∃ t, exec (.envDropNext k) s = .next t ∧ (t.chan.fifo k).dropNext = true
      ∧ t.bytes k = s.bytes k ∧ (∀ j, j ≠ k → t.chan.fifo j = s.chan.fifo j)
      ∧ t = { s with chan := t.chan, result := .nothing })
    ∧ (k.isIn s.cfg.topology = true → s.cfg.capacity ≤ (s.bytes k).length →
      exec (.envInject k b) s = .refused .queueFull))
  ∧ (∀ (k : Queue) (b : Byte) (s : State), s.cfg.env = .reliable → k.isIn s.cfg.topology = true →
      exec (.envInject k b) s = .next { s with result := .nothing }
      ∧ exec (.envDropNext k) s = .next { s with result := .nothing })
  ∧ (∀ (k : Queue) (b : Byte) (s : State), k.isIn s.cfg.topology = false →
      exec (.envInject k b) s = .refused .noSuchQueue ∧ exec (.envDropNext k) s = .refused .noSuchQueue)
  ∧ (∀ s : State, s.cfg.env = .reliable → insertionPoint s = s)
  ∧ (∀ s : State, s.cfg.env = .lossy →
      (∀ k, (insertionPoint s).bytes k = s.bytes k ++
          (if k.isIn s.cfg.topology then
            ((s.env.nextInsert.filter fun i => i.1 = k).map Prod.snd).take (s.cfg.capacity - (s.bytes k).length)
          else [])
        ∧ ((insertionPoint s).chan.fifo k).dropNext = (s.chan.fifo k).dropNext)
      ∧ insertionPoint s = { s with
          chan := (insertionPoint s).chan, env := s.env.afterInsert }
      ∧ (∀ l rest, s.env.inserts = l :: rest →
          s.env.nextInsert = l ∧ s.env.afterInsert = { s.env with inserts := rest })
      ∧ (∀ act l, s.env.inserts = [] → s.env.endless = .steady act l →
          s.env.nextInsert = l ∧ s.env.afterInsert = s.env)
      ∧ (∀ n, s.env.inserts = [] → s.env.endless = .free n →
          s.env.nextInsert = Config.freeInsert n ∧ s.env.afterInsert = { s.env with endless := .free (n + 1) }))

/-! ### The whole machine -/

/-- The invariant of R31 to R50 is kept by every step, from every state that meets it. What HARNESS_CREATE leaves in the TX
registers is the model's choice (log entry 4). -/
def Obligations.EveryStepKeepsTheInvariant : Prop :=
  ∀ s t : State, s.Inv → step s = .next t → t.Inv

/-- Reset meets the invariant (R240, R301; the values of log entries 1, 4 and 6 are the model's). -/
def Obligations.ResetMeetsTheInvariant : Prop := State.reset.Inv

/-- R117, R277: under the invariant no operation is stuck and none raises IllegalState. -/
def Obligations.NoStuckAndNoIllegalStateUnderTheInvariant : Prop :=
  ∀ (i : Instr) (s : State), s.Inv →
    (∀ e, exec i s ≠ .fault e) ∧ ∀ t, exec i s = .next t → t.result ≠ .raised .illegalState

/-- R117: a transition takes effect only where its own word selects it: an RX transition in the state its word names, a
TX transition on the very word the engine forms; where it is not selected it is refused (log entry 12). RX_IDLE writes
nothing and is left out. -/
def Obligations.TransitionsTakeEffectOnlyWhenSelected : Prop :=
  ∀ (i : Instr) (w : Tsel) (s : State), encode i = some w → (∀ c, i ≠ .rxIdle c) →
    ((∃ t, exec i s = .next t) → decode (guardsOf s) w = .instr i
      ∧ (tselU w = false → tselS w = s.rx.state.code) ∧ (tselU w = true → w = txTsel s))
    ∧ (TxInv s → ¬ (decode (guardsOf s) w = .instr i
        ∧ (tselU w = false → tselS w = s.rx.state.code) ∧ (tselU w = true → w = txTsel s)) →
      exec i s = .refused .rowNotSelected)

/-- R21, R51: `faulted` is never cleared but by the making of a new harness. -/
def Obligations.FaultedIsNeverCleared : Prop :=
  ∀ (i : Instr) (s t : State), (∀ c, i ≠ .harnessCreate c) → exec i s = .next t → s.faulted = true → t.faulted = true

/-- R20: events are only appended. -/
def Obligations.HistoryOnlyGrows : Prop :=
  ∀ s t : State, step s = .next t → ∃ es, t.history = s.history ++ es

/-- R54: the configuration is fixed for the life of a harness. -/
def Obligations.ConfigurationIsFixed : Prop :=
  ∀ (i : Instr) (s t : State), (∀ c, i ≠ .harnessCreate c) → exec i s = .next t → t.cfg = s.cfg
end

