-- ==== Sys2Proof/Laws/Buffer.lean ====
section
/-! SUPPORT. Buffers: a write keeps the canonical form, a read after a write, and what a buffer made from a list holds. -/

namespace Sys2Proof.Machine

theorem Buffer.risesFrom_mono {lo lo' : Nat} (h : lo' ≤ lo) {b : Buffer} (hb : Buffer.risesFrom lo b = true) :
    Buffer.risesFrom lo' b = true := by
  cases b with
  | nil => rfl
  | cons c rest =>
    obtain ⟨j, w⟩ := c
    simp only [Buffer.risesFrom, Bool.and_eq_true, decide_eq_true_eq] at hb ⊢
    exact ⟨Nat.le_trans h hb.1, hb.2⟩

theorem Buffer.write_risesFrom (i : Nat) (v : Byte) (b : Buffer) (lo : Nat) (hi : lo ≤ i)
    (hb : Buffer.risesFrom lo b = true) : Buffer.risesFrom lo (Buffer.write i v b) = true := by
  induction b generalizing lo with
  | nil => simpa [Buffer.write, Buffer.risesFrom] using hi
  | cons c rest ih =>
    obtain ⟨j, w⟩ := c
    simp only [Buffer.risesFrom, Bool.and_eq_true, decide_eq_true_eq] at hb
    rw [Buffer.write]
    split
    · next h =>
      simp only [Buffer.risesFrom, Bool.and_eq_true, decide_eq_true_eq]
      exact ⟨hi, h, hb.2⟩
    · split
      · next h => subst h; simp only [Buffer.risesFrom, Bool.and_eq_true, decide_eq_true_eq]; exact ⟨hi, hb.2⟩
      · next h1 h2 =>
        simp only [Buffer.risesFrom, Bool.and_eq_true, decide_eq_true_eq]
        exact ⟨hb.1, ih (j + 1) (by omega) hb.2⟩

/-- A write keeps the canonical form. -/
theorem Buffer.write_wf {b : Buffer} (hb : Buffer.wf b) (i : Nat) (v : Byte) : Buffer.wf (Buffer.write i v b) :=
  Buffer.write_risesFrom i v b 0 (Nat.zero_le i) hb

/-- A read after a write to the same index gives the byte written. -/
@[simp] theorem Buffer.read_write_same (i : Nat) (v : Byte) (b : Buffer) :
    Buffer.read i (Buffer.write i v b) = some v := by
  induction b with
  | nil => simp [Buffer.write, Buffer.read]
  | cons c rest ih =>
    obtain ⟨j, w⟩ := c
    rw [Buffer.write]
    split
    · simp [Buffer.read]
    · split
      · simp [Buffer.read]
      · next h => simp [Buffer.read, h, ih]

/-- A write leaves every other index alone. -/
theorem Buffer.read_write_other {i j : Nat} (h : j ≠ i) (v : Byte) (b : Buffer) :
    Buffer.read j (Buffer.write i v b) = Buffer.read j b := by
  induction b with
  | nil => simp [Buffer.write, Buffer.read, h]
  | cons c rest ih =>
    obtain ⟨k, w⟩ := c
    rw [Buffer.write]
    split
    · simp [Buffer.read, h]
    · split
      · next h2 => subst h2; simp [Buffer.read, h]
      · simp only [Buffer.read]; split <;> simp [ih]

theorem Buffer.ofListFrom_risesFrom (i : Nat) (bs : List Byte) :
    Buffer.risesFrom i (Buffer.ofListFrom i bs) = true := by
  induction bs generalizing i with
  | nil => rfl
  | cons b rest ih => simp [Buffer.ofListFrom, Buffer.risesFrom, ih]

/-- A buffer made from a list has the canonical form. -/
theorem Buffer.ofList_wf (bs : List Byte) : Buffer.wf (Buffer.ofList bs) := Buffer.ofListFrom_risesFrom 0 bs

theorem Buffer.read_ofListFrom (i j : Nat) (bs : List Byte) :
    Buffer.read (i + j) (Buffer.ofListFrom i bs) = bs[j]? := by
  induction bs generalizing i j with
  | nil => simp [Buffer.ofListFrom, Buffer.read]
  | cons b rest ih =>
    cases j with
    | zero => simp [Buffer.ofListFrom, Buffer.read]
    | succ n =>
      have e : i + (n + 1) = (i + 1) + n := by omega
      have h : ¬ i + 1 + n = i := by omega
      simp only [Buffer.ofListFrom, Buffer.read, e, if_neg h, ih, List.getElem?_cons_succ]

/-- A buffer made from a list holds the list's bytes from index 0 on. -/
@[simp] theorem Buffer.read_ofList (j : Nat) (bs : List Byte) : Buffer.read j (Buffer.ofList bs) = bs[j]? := by
  simpa [Buffer.ofList] using Buffer.read_ofListFrom 0 j bs

/-- The frame byte at an index of the frame. -/
theorem frameByte_ofList {j : Nat} {bs : List Byte} (h : j < bs.length) : frameByte (Buffer.ofList bs) j = bs[j] := by
  simp [frameByte, List.getElem?_eq_getElem h]

@[simp] theorem rxBytes_length (b : Buffer) (n : Nat) : (rxBytes b n).length = n := by simp [rxBytes]

@[simp] theorem rxBytes_zero (b : Buffer) : rxBytes b 0 = [] := rfl

/-- One byte more. -/
theorem rxBytes_succ (b : Buffer) (n : Nat) : rxBytes b (n + 1) = rxBytes b n ++ [rxByte b n] := by
  simp [rxBytes, List.range_succ]

/-- A write at the end of the bytes read adds its byte. -/
theorem rxBytes_write (b : Buffer) (n : Nat) (v : Byte) :
    rxBytes (Buffer.write n v b) (n + 1) = rxBytes b n ++ [v] := by
  rw [rxBytes_succ]
  congr 1
  · apply List.map_congr_left
    intro i hi
    have : i ≠ n := by have := List.mem_range.mp hi; omega
    simp [rxByte, Buffer.read_write_other this]
  · simp [rxByte]

end Sys2Proof.Machine
end

