-- ==== Sys2Proof/Laws/Codec.lean ====
section
/-! SUPPORT. The checksum byte by byte, and the shape of an encoded frame. -/

namespace Sys2Proof.Machine

@[simp] theorem checksum_nil (len : Byte) : checksum len [] = len := rfl

/-- The fold goes on byte by byte (R140). -/
theorem checksum_append (len : Byte) (d e : List Byte) : checksum len (d ++ e) = checksum (checksum len d) e := by
  simp [checksum]

@[simp] theorem checksum_append_one (len : Byte) (d : List Byte) (b : Byte) :
    checksum len (d ++ [b]) = checksum len d ^^^ b := by simp [checksum]

/-- Where Encode answers, and what (R141, R142). -/
theorem encodeFrame_eq_some {p bs : List Byte} : encodeFrame p = some bs ↔
    p.length ≤ 255 ∧
      bs = [stx, BitVec.ofNat 8 p.length] ++ p ++ [checksum (BitVec.ofNat 8 p.length) p, etx] := by
  unfold encodeFrame
  split
  · next h => simp [h, eq_comm]
  · next h => simp [h]

/-- A frame has four bytes more than its payload (R105). -/
theorem encodeFrame_length {p bs : List Byte} (h : encodeFrame p = some bs) : bs.length = p.length + 4 := by
  obtain ⟨_, rfl⟩ := encodeFrame_eq_some.mp h
  simp

end Sys2Proof.Machine
end

