-- ==== Sys2Proof/Laws/Decode.lean ====
section
/-! SUPPORT. The fields of a selector word made from its parts, and the state codes. -/

namespace Sys2Proof

@[simp] theorem RxState.ofCode_code (c : RxState) : RxState.ofCode c.code = c := by cases c <;> decide

@[simp] theorem TxState.ofCode_code (c : TxState) : TxState.ofCode c.code = c := by cases c <;> decide

@[simp] theorem RxState.code_ofCode (c : BitVec 3) : (RxState.ofCode c).code = c := by
  revert c; decide

@[simp] theorem TxState.code_ofCode (c : BitVec 3) : (TxState.ofCode c).code = c := by
  revert c; decide

/-- U of a word made from its parts (R115). -/
@[simp] theorem tselU_tselWord (u : Bool) (c : BitVec 3) (input : Option Byte) : tselU (tselWord u c input) = u := by
  cases u <;> cases input <;> simp [tselU, tselWord]

/-- S of a word made from its parts (R115). -/
@[simp] theorem tselS_tselWord (u : Bool) (c : BitVec 3) (input : Option Byte) : tselS (tselWord u c input) = c := by
  apply BitVec.eq_of_getLsbD_eq
  intro i hi
  have h : i = 0 ∨ i = 1 ∨ i = 2 := by omega
  rcases h with rfl | rfl | rfl <;> cases u <;> cases input <;> simp [tselS, tselWord]

/-- The reserved bits of a word made from its parts are 0 (R115). -/
@[simp] theorem tselReserved_tselWord (u : Bool) (c : BitVec 3) (input : Option Byte) :
    tselReserved (tselWord u c input) = 0#3 := by
  apply BitVec.eq_of_getLsbD_eq
  intro i hi
  have h : i = 0 ∨ i = 1 ∨ i = 2 := by omega
  rcases h with rfl | rfl | rfl <;> cases u <;> cases input <;> simp [tselReserved, tselWord]

/-- V of a word made from its parts (R115). -/
@[simp] theorem tselV_tselWord (u : Bool) (c : BitVec 3) (input : Option Byte) :
    tselV (tselWord u c input) = input.isSome := by
  cases u <;> cases input <;> simp [tselV, tselWord]

/-- B of a word made from its parts (R115). -/
@[simp] theorem tselB_tselWord (u : Bool) (c : BitVec 3) (input : Option Byte) :
    tselB (tselWord u c input) = input.getD 0#8 := by
  apply BitVec.eq_of_getLsbD_eq
  intro i hi
  have h : i = 0 ∨ i = 1 ∨ i = 2 ∨ i = 3 ∨ i = 4 ∨ i = 5 ∨ i = 6 ∨ i = 7 := by omega
  rcases h with rfl | rfl | rfl | rfl | rfl | rfl | rfl | rfl <;> cases u <;> cases input <;> simp [tselB, tselWord]

/-- Decoding a word made from its parts (R117). -/
theorem decode_tselWord (g : Guards) (u : Bool) (c : BitVec 3) (input : Option Byte) :
    decode g (tselWord u c input) =
      if u then decodeTx g (TxState.ofCode c) input.isSome (input.getD 0#8)
      else decodeRx g (RxState.ofCode c) input.isSome (input.getD 0#8) := by
  simp [decode]

end Sys2Proof
end

