-- ==== Sys2Proof/Laws/State.lean ====
section
/-! SUPPORT. One lemma per field per update of State, so that no later proof unfolds a record update. -/

namespace Sys2Proof.Machine

section withCfg
variable (s : State) (c : Cfg)
@[simp] theorem State.withCfg_cfg : (s.withCfg c).cfg = c := rfl
@[simp] theorem State.withCfg_rx : (s.withCfg c).rx = s.rx := rfl
@[simp] theorem State.withCfg_tx : (s.withCfg c).tx = s.tx := rfl
@[simp] theorem State.withCfg_txLive : (s.withCfg c).txLive = s.txLive := rfl
@[simp] theorem State.withCfg_chan : (s.withCfg c).chan = s.chan := rfl
@[simp] theorem State.withCfg_now : (s.withCfg c).now = s.now := rfl
@[simp] theorem State.withCfg_iter : (s.withCfg c).iter = s.iter := rfl
@[simp] theorem State.withCfg_runStatus : (s.withCfg c).runStatus = s.runStatus := rfl
@[simp] theorem State.withCfg_faulted : (s.withCfg c).faulted = s.faulted := rfl
@[simp] theorem State.withCfg_env : (s.withCfg c).env = s.env := rfl
@[simp] theorem State.withCfg_program : (s.withCfg c).program = s.program := rfl
@[simp] theorem State.withCfg_history : (s.withCfg c).history = s.history := rfl
@[simp] theorem State.withCfg_result : (s.withCfg c).result = s.result := rfl
end withCfg

section withRx
variable (s : State) (r : ReceiverContext)
@[simp] theorem State.withRx_cfg : (s.withRx r).cfg = s.cfg := rfl
@[simp] theorem State.withRx_rx : (s.withRx r).rx = r := rfl
@[simp] theorem State.withRx_tx : (s.withRx r).tx = s.tx := rfl
@[simp] theorem State.withRx_txLive : (s.withRx r).txLive = s.txLive := rfl
@[simp] theorem State.withRx_chan : (s.withRx r).chan = s.chan := rfl
@[simp] theorem State.withRx_now : (s.withRx r).now = s.now := rfl
@[simp] theorem State.withRx_iter : (s.withRx r).iter = s.iter := rfl
@[simp] theorem State.withRx_runStatus : (s.withRx r).runStatus = s.runStatus := rfl
@[simp] theorem State.withRx_faulted : (s.withRx r).faulted = s.faulted := rfl
@[simp] theorem State.withRx_env : (s.withRx r).env = s.env := rfl
@[simp] theorem State.withRx_program : (s.withRx r).program = s.program := rfl
@[simp] theorem State.withRx_history : (s.withRx r).history = s.history := rfl
@[simp] theorem State.withRx_result : (s.withRx r).result = s.result := rfl
end withRx

section withTx
variable (s : State) (t : TransmitterContext)
@[simp] theorem State.withTx_cfg : (s.withTx t).cfg = s.cfg := rfl
@[simp] theorem State.withTx_rx : (s.withTx t).rx = s.rx := rfl
@[simp] theorem State.withTx_tx : (s.withTx t).tx = t := rfl
@[simp] theorem State.withTx_txLive : (s.withTx t).txLive = s.txLive := rfl
@[simp] theorem State.withTx_chan : (s.withTx t).chan = s.chan := rfl
@[simp] theorem State.withTx_now : (s.withTx t).now = s.now := rfl
@[simp] theorem State.withTx_iter : (s.withTx t).iter = s.iter := rfl
@[simp] theorem State.withTx_runStatus : (s.withTx t).runStatus = s.runStatus := rfl
@[simp] theorem State.withTx_faulted : (s.withTx t).faulted = s.faulted := rfl
@[simp] theorem State.withTx_env : (s.withTx t).env = s.env := rfl
@[simp] theorem State.withTx_program : (s.withTx t).program = s.program := rfl
@[simp] theorem State.withTx_history : (s.withTx t).history = s.history := rfl
@[simp] theorem State.withTx_result : (s.withTx t).result = s.result := rfl
end withTx

section withTxLive
variable (s : State) (b : Bool)
@[simp] theorem State.withTxLive_cfg : (s.withTxLive b).cfg = s.cfg := rfl
@[simp] theorem State.withTxLive_rx : (s.withTxLive b).rx = s.rx := rfl
@[simp] theorem State.withTxLive_tx : (s.withTxLive b).tx = s.tx := rfl
@[simp] theorem State.withTxLive_txLive : (s.withTxLive b).txLive = b := rfl
@[simp] theorem State.withTxLive_chan : (s.withTxLive b).chan = s.chan := rfl
@[simp] theorem State.withTxLive_now : (s.withTxLive b).now = s.now := rfl
@[simp] theorem State.withTxLive_iter : (s.withTxLive b).iter = s.iter := rfl
@[simp] theorem State.withTxLive_runStatus : (s.withTxLive b).runStatus = s.runStatus := rfl
@[simp] theorem State.withTxLive_faulted : (s.withTxLive b).faulted = s.faulted := rfl
@[simp] theorem State.withTxLive_env : (s.withTxLive b).env = s.env := rfl
@[simp] theorem State.withTxLive_program : (s.withTxLive b).program = s.program := rfl
@[simp] theorem State.withTxLive_history : (s.withTxLive b).history = s.history := rfl
@[simp] theorem State.withTxLive_result : (s.withTxLive b).result = s.result := rfl
end withTxLive

section withChan
variable (s : State) (c : Channel)
@[simp] theorem State.withChan_cfg : (s.withChan c).cfg = s.cfg := rfl
@[simp] theorem State.withChan_rx : (s.withChan c).rx = s.rx := rfl
@[simp] theorem State.withChan_tx : (s.withChan c).tx = s.tx := rfl
@[simp] theorem State.withChan_txLive : (s.withChan c).txLive = s.txLive := rfl
@[simp] theorem State.withChan_chan : (s.withChan c).chan = c := rfl
@[simp] theorem State.withChan_now : (s.withChan c).now = s.now := rfl
@[simp] theorem State.withChan_iter : (s.withChan c).iter = s.iter := rfl
@[simp] theorem State.withChan_runStatus : (s.withChan c).runStatus = s.runStatus := rfl
@[simp] theorem State.withChan_faulted : (s.withChan c).faulted = s.faulted := rfl
@[simp] theorem State.withChan_env : (s.withChan c).env = s.env := rfl
@[simp] theorem State.withChan_program : (s.withChan c).program = s.program := rfl
@[simp] theorem State.withChan_history : (s.withChan c).history = s.history := rfl
@[simp] theorem State.withChan_result : (s.withChan c).result = s.result := rfl
end withChan

section withNow
variable (s : State) (n : Nat)
@[simp] theorem State.withNow_cfg : (s.withNow n).cfg = s.cfg := rfl
@[simp] theorem State.withNow_rx : (s.withNow n).rx = s.rx := rfl
@[simp] theorem State.withNow_tx : (s.withNow n).tx = s.tx := rfl
@[simp] theorem State.withNow_txLive : (s.withNow n).txLive = s.txLive := rfl
@[simp] theorem State.withNow_chan : (s.withNow n).chan = s.chan := rfl
@[simp] theorem State.withNow_now : (s.withNow n).now = n := rfl
@[simp] theorem State.withNow_iter : (s.withNow n).iter = s.iter := rfl
@[simp] theorem State.withNow_runStatus : (s.withNow n).runStatus = s.runStatus := rfl
@[simp] theorem State.withNow_faulted : (s.withNow n).faulted = s.faulted := rfl
@[simp] theorem State.withNow_env : (s.withNow n).env = s.env := rfl
@[simp] theorem State.withNow_program : (s.withNow n).program = s.program := rfl
@[simp] theorem State.withNow_history : (s.withNow n).history = s.history := rfl
@[simp] theorem State.withNow_result : (s.withNow n).result = s.result := rfl
end withNow

section withIter
variable (s : State) (n : Nat)
@[simp] theorem State.withIter_cfg : (s.withIter n).cfg = s.cfg := rfl
@[simp] theorem State.withIter_rx : (s.withIter n).rx = s.rx := rfl
@[simp] theorem State.withIter_tx : (s.withIter n).tx = s.tx := rfl
@[simp] theorem State.withIter_txLive : (s.withIter n).txLive = s.txLive := rfl
@[simp] theorem State.withIter_chan : (s.withIter n).chan = s.chan := rfl
@[simp] theorem State.withIter_now : (s.withIter n).now = s.now := rfl
@[simp] theorem State.withIter_iter : (s.withIter n).iter = n := rfl
@[simp] theorem State.withIter_runStatus : (s.withIter n).runStatus = s.runStatus := rfl
@[simp] theorem State.withIter_faulted : (s.withIter n).faulted = s.faulted := rfl
@[simp] theorem State.withIter_env : (s.withIter n).env = s.env := rfl
@[simp] theorem State.withIter_program : (s.withIter n).program = s.program := rfl
@[simp] theorem State.withIter_history : (s.withIter n).history = s.history := rfl
@[simp] theorem State.withIter_result : (s.withIter n).result = s.result := rfl
end withIter

section withRunStatus
variable (s : State) (r : RunStatus)
@[simp] theorem State.withRunStatus_cfg : (s.withRunStatus r).cfg = s.cfg := rfl
@[simp] theorem State.withRunStatus_rx : (s.withRunStatus r).rx = s.rx := rfl
@[simp] theorem State.withRunStatus_tx : (s.withRunStatus r).tx = s.tx := rfl
@[simp] theorem State.withRunStatus_txLive : (s.withRunStatus r).txLive = s.txLive := rfl
@[simp] theorem State.withRunStatus_chan : (s.withRunStatus r).chan = s.chan := rfl
@[simp] theorem State.withRunStatus_now : (s.withRunStatus r).now = s.now := rfl
@[simp] theorem State.withRunStatus_iter : (s.withRunStatus r).iter = s.iter := rfl
@[simp] theorem State.withRunStatus_runStatus : (s.withRunStatus r).runStatus = r := rfl
@[simp] theorem State.withRunStatus_faulted : (s.withRunStatus r).faulted = s.faulted := rfl
@[simp] theorem State.withRunStatus_env : (s.withRunStatus r).env = s.env := rfl
@[simp] theorem State.withRunStatus_program : (s.withRunStatus r).program = s.program := rfl
@[simp] theorem State.withRunStatus_history : (s.withRunStatus r).history = s.history := rfl
@[simp] theorem State.withRunStatus_result : (s.withRunStatus r).result = s.result := rfl
end withRunStatus

section withFaulted
variable (s : State) (b : Bool)
@[simp] theorem State.withFaulted_cfg : (s.withFaulted b).cfg = s.cfg := rfl
@[simp] theorem State.withFaulted_rx : (s.withFaulted b).rx = s.rx := rfl
@[simp] theorem State.withFaulted_tx : (s.withFaulted b).tx = s.tx := rfl
@[simp] theorem State.withFaulted_txLive : (s.withFaulted b).txLive = s.txLive := rfl
@[simp] theorem State.withFaulted_chan : (s.withFaulted b).chan = s.chan := rfl
@[simp] theorem State.withFaulted_now : (s.withFaulted b).now = s.now := rfl
@[simp] theorem State.withFaulted_iter : (s.withFaulted b).iter = s.iter := rfl
@[simp] theorem State.withFaulted_runStatus : (s.withFaulted b).runStatus = s.runStatus := rfl
@[simp] theorem State.withFaulted_faulted : (s.withFaulted b).faulted = b := rfl
@[simp] theorem State.withFaulted_env : (s.withFaulted b).env = s.env := rfl
@[simp] theorem State.withFaulted_program : (s.withFaulted b).program = s.program := rfl
@[simp] theorem State.withFaulted_history : (s.withFaulted b).history = s.history := rfl
@[simp] theorem State.withFaulted_result : (s.withFaulted b).result = s.result := rfl
end withFaulted

section withEnv
variable (s : State) (e : Environment)
@[simp] theorem State.withEnv_cfg : (s.withEnv e).cfg = s.cfg := rfl
@[simp] theorem State.withEnv_rx : (s.withEnv e).rx = s.rx := rfl
@[simp] theorem State.withEnv_tx : (s.withEnv e).tx = s.tx := rfl
@[simp] theorem State.withEnv_txLive : (s.withEnv e).txLive = s.txLive := rfl
@[simp] theorem State.withEnv_chan : (s.withEnv e).chan = s.chan := rfl
@[simp] theorem State.withEnv_now : (s.withEnv e).now = s.now := rfl
@[simp] theorem State.withEnv_iter : (s.withEnv e).iter = s.iter := rfl
@[simp] theorem State.withEnv_runStatus : (s.withEnv e).runStatus = s.runStatus := rfl
@[simp] theorem State.withEnv_faulted : (s.withEnv e).faulted = s.faulted := rfl
@[simp] theorem State.withEnv_env : (s.withEnv e).env = e := rfl
@[simp] theorem State.withEnv_program : (s.withEnv e).program = s.program := rfl
@[simp] theorem State.withEnv_history : (s.withEnv e).history = s.history := rfl
@[simp] theorem State.withEnv_result : (s.withEnv e).result = s.result := rfl
end withEnv

section withProgram
variable (s : State) (p : List Slot)
@[simp] theorem State.withProgram_cfg : (s.withProgram p).cfg = s.cfg := rfl
@[simp] theorem State.withProgram_rx : (s.withProgram p).rx = s.rx := rfl
@[simp] theorem State.withProgram_tx : (s.withProgram p).tx = s.tx := rfl
@[simp] theorem State.withProgram_txLive : (s.withProgram p).txLive = s.txLive := rfl
@[simp] theorem State.withProgram_chan : (s.withProgram p).chan = s.chan := rfl
@[simp] theorem State.withProgram_now : (s.withProgram p).now = s.now := rfl
@[simp] theorem State.withProgram_iter : (s.withProgram p).iter = s.iter := rfl
@[simp] theorem State.withProgram_runStatus : (s.withProgram p).runStatus = s.runStatus := rfl
@[simp] theorem State.withProgram_faulted : (s.withProgram p).faulted = s.faulted := rfl
@[simp] theorem State.withProgram_env : (s.withProgram p).env = s.env := rfl
@[simp] theorem State.withProgram_program : (s.withProgram p).program = p := rfl
@[simp] theorem State.withProgram_history : (s.withProgram p).history = s.history := rfl
@[simp] theorem State.withProgram_result : (s.withProgram p).result = s.result := rfl
end withProgram

section emit
variable (s : State) (e : Event)
@[simp] theorem State.emit_cfg : (s.emit e).cfg = s.cfg := rfl
@[simp] theorem State.emit_rx : (s.emit e).rx = s.rx := rfl
@[simp] theorem State.emit_tx : (s.emit e).tx = s.tx := rfl
@[simp] theorem State.emit_txLive : (s.emit e).txLive = s.txLive := rfl
@[simp] theorem State.emit_chan : (s.emit e).chan = s.chan := rfl
@[simp] theorem State.emit_now : (s.emit e).now = s.now := rfl
@[simp] theorem State.emit_iter : (s.emit e).iter = s.iter := rfl
@[simp] theorem State.emit_runStatus : (s.emit e).runStatus = s.runStatus := rfl
@[simp] theorem State.emit_faulted : (s.emit e).faulted = s.faulted := rfl
@[simp] theorem State.emit_env : (s.emit e).env = s.env := rfl
@[simp] theorem State.emit_program : (s.emit e).program = s.program := rfl
@[simp] theorem State.emit_history : (s.emit e).history = s.history ++ [e] := rfl
@[simp] theorem State.emit_result : (s.emit e).result = s.result := rfl
end emit

section ret
variable (s : State) (r : OpResult)
@[simp] theorem State.ret_cfg : (s.ret r).cfg = s.cfg := rfl
@[simp] theorem State.ret_rx : (s.ret r).rx = s.rx := rfl
@[simp] theorem State.ret_tx : (s.ret r).tx = s.tx := rfl
@[simp] theorem State.ret_txLive : (s.ret r).txLive = s.txLive := rfl
@[simp] theorem State.ret_chan : (s.ret r).chan = s.chan := rfl
@[simp] theorem State.ret_now : (s.ret r).now = s.now := rfl
@[simp] theorem State.ret_iter : (s.ret r).iter = s.iter := rfl
@[simp] theorem State.ret_runStatus : (s.ret r).runStatus = s.runStatus := rfl
@[simp] theorem State.ret_faulted : (s.ret r).faulted = s.faulted := rfl
@[simp] theorem State.ret_env : (s.ret r).env = s.env := rfl
@[simp] theorem State.ret_program : (s.ret r).program = s.program := rfl
@[simp] theorem State.ret_history : (s.ret r).history = s.history := rfl
@[simp] theorem State.ret_result : (s.ret r).result = r := rfl
end ret

section queues
variable (s : State) (k : Queue) (bs : List Byte) (d : Bool)
@[simp] theorem State.withBytes_cfg : (s.withBytes k bs).cfg = s.cfg := rfl
@[simp] theorem State.withBytes_rx : (s.withBytes k bs).rx = s.rx := rfl
@[simp] theorem State.withBytes_tx : (s.withBytes k bs).tx = s.tx := rfl
@[simp] theorem State.withBytes_txLive : (s.withBytes k bs).txLive = s.txLive := rfl
@[simp] theorem State.withBytes_now : (s.withBytes k bs).now = s.now := rfl
@[simp] theorem State.withBytes_iter : (s.withBytes k bs).iter = s.iter := rfl
@[simp] theorem State.withBytes_runStatus : (s.withBytes k bs).runStatus = s.runStatus := rfl
@[simp] theorem State.withBytes_faulted : (s.withBytes k bs).faulted = s.faulted := rfl
@[simp] theorem State.withBytes_env : (s.withBytes k bs).env = s.env := rfl
@[simp] theorem State.withBytes_program : (s.withBytes k bs).program = s.program := rfl
@[simp] theorem State.withBytes_history : (s.withBytes k bs).history = s.history := rfl
@[simp] theorem State.withBytes_result : (s.withBytes k bs).result = s.result := rfl
@[simp] theorem State.withDropNext_cfg : (s.withDropNext k d).cfg = s.cfg := rfl
@[simp] theorem State.withDropNext_rx : (s.withDropNext k d).rx = s.rx := rfl
@[simp] theorem State.withDropNext_tx : (s.withDropNext k d).tx = s.tx := rfl
@[simp] theorem State.withDropNext_txLive : (s.withDropNext k d).txLive = s.txLive := rfl
@[simp] theorem State.withDropNext_now : (s.withDropNext k d).now = s.now := rfl
@[simp] theorem State.withDropNext_iter : (s.withDropNext k d).iter = s.iter := rfl
@[simp] theorem State.withDropNext_runStatus : (s.withDropNext k d).runStatus = s.runStatus := rfl
@[simp] theorem State.withDropNext_faulted : (s.withDropNext k d).faulted = s.faulted := rfl
@[simp] theorem State.withDropNext_env : (s.withDropNext k d).env = s.env := rfl
@[simp] theorem State.withDropNext_program : (s.withDropNext k d).program = s.program := rfl
@[simp] theorem State.withDropNext_history : (s.withDropNext k d).history = s.history := rfl
@[simp] theorem State.withDropNext_result : (s.withDropNext k d).result = s.result := rfl
end queues

/-- Two states with the same fields are the same. -/
theorem State.eq_of_fields {s t : State} (h1 : s.cfg = t.cfg) (h2 : s.rx = t.rx) (h3 : s.tx = t.tx)
    (h4 : s.txLive = t.txLive) (h5 : s.chan = t.chan) (h6 : s.now = t.now) (h7 : s.iter = t.iter)
    (h8 : s.runStatus = t.runStatus) (h9 : s.faulted = t.faulted) (h10 : s.env = t.env) (h11 : s.program = t.program)
    (h12 : s.history = t.history) (h13 : s.result = t.result) : s = t := by
  cases s; cases t; simp_all

end Sys2Proof.Machine
end

