-- ==== Sys2Proof/Laws/Ops.lean ====
section
/-! SUPPORT. What each shared operation can do, said once: sequencing, the queues, Send and Receive, the environment, the Clock, the error entry and the fault entry. -/

namespace Sys2Proof.Machine

/-! ### Sequencing -/

@[simp] theorem andThen_next (s : State) (f : State → Res) : andThen (.next s) f = f s := rfl
@[simp] theorem andThen_fault (e : Fault) (f : State → Res) : andThen (.fault e) f = .fault e := rfl
@[simp] theorem andThen_refused (e : Refusal) (f : State → Res) : andThen (.refused e) f = .refused e := rfl

/-- A sequence that answers a next state ran both operations. -/
theorem andThen_eq_next {r : Res} {f : State → Res} {t : State} (h : andThen r f = .next t) :
    ∃ s, r = .next s ∧ f s = .next t := by
  cases r with
  | next s => exact ⟨s, rfl, h⟩
  | fault e => cases h
  | refused e => cases h

/-- A sequence that faults did so in one of its operations. -/
theorem andThen_eq_fault {r : Res} {f : State → Res} {e : Fault} (h : andThen r f = .fault e) :
    r = .fault e ∨ ∃ s, r = .next s ∧ f s = .fault e := by
  cases r with
  | next s => exact .inr ⟨s, rfl, h⟩
  | fault e' => exact .inl h
  | refused e' => cases h

/-! ### Queues -/

@[simp] theorem Channel.fifo_withFifo_same (c : Channel) (f : Fifo) (k : Queue) : (c.withFifo f k).fifo k = f := by
  cases k <;> rfl

theorem Channel.fifo_withFifo_other (c : Channel) (f : Fifo) {k j : Queue} (h : j ≠ k) :
    (c.withFifo f k).fifo j = c.fifo j := by
  cases k <;> cases j <;> first | rfl | exact absurd rfl h

@[simp] theorem State.bytes_withBytes_same (s : State) (k : Queue) (bs : List Byte) :
    (s.withBytes k bs).bytes k = bs := by simp [State.bytes, State.withBytes]

theorem State.bytes_withBytes_other (s : State) {k j : Queue} (h : j ≠ k) (bs : List Byte) :
    (s.withBytes k bs).bytes j = s.bytes j := by
  simp [State.bytes, State.withBytes, Channel.fifo_withFifo_other _ _ h]

@[simp] theorem State.bytes_withDropNext (s : State) (k j : Queue) (d : Bool) :
    (s.withDropNext k d).bytes j = s.bytes j := by
  by_cases h : j = k
  · subst h; simp [State.bytes, State.withDropNext]
  · simp [State.bytes, State.withDropNext, Channel.fifo_withFifo_other _ _ h]

section bytes_unchanged
variable (s : State) (k : Queue)
@[simp] theorem State.bytes_withCfg (c : Cfg) : (s.withCfg c).bytes k = s.bytes k := rfl
@[simp] theorem State.bytes_withRx (r : ReceiverContext) : (s.withRx r).bytes k = s.bytes k := rfl
@[simp] theorem State.bytes_withTx (t : TransmitterContext) : (s.withTx t).bytes k = s.bytes k := rfl
@[simp] theorem State.bytes_withTxLive (b : Bool) : (s.withTxLive b).bytes k = s.bytes k := rfl
@[simp] theorem State.bytes_withNow (n : Nat) : (s.withNow n).bytes k = s.bytes k := rfl
@[simp] theorem State.bytes_withIter (n : Nat) : (s.withIter n).bytes k = s.bytes k := rfl
@[simp] theorem State.bytes_withRunStatus (r : RunStatus) : (s.withRunStatus r).bytes k = s.bytes k := rfl
@[simp] theorem State.bytes_withFaulted (b : Bool) : (s.withFaulted b).bytes k = s.bytes k := rfl
@[simp] theorem State.bytes_withEnv (e : Environment) : (s.withEnv e).bytes k = s.bytes k := rfl
@[simp] theorem State.bytes_withProgram (p : List Slot) : (s.withProgram p).bytes k = s.bytes k := rfl
@[simp] theorem State.bytes_emit (e : Event) : (s.emit e).bytes k = s.bytes k := rfl
@[simp] theorem State.bytes_ret (r : OpResult) : (s.ret r).bytes k = s.bytes k := rfl
@[simp] theorem State.bytes_afterSend (j : Queue) : (s.afterSend j).bytes k = s.bytes k := by
  simp only [State.afterSend]; split <;> simp
end bytes_unchanged

/-! ### Send and Receive -/

section afterSend
variable (s : State) (k : Queue)
@[simp] theorem State.afterSend_cfg : (s.afterSend k).cfg = s.cfg := by simp only [State.afterSend]; split <;> simp
@[simp] theorem State.afterSend_rx : (s.afterSend k).rx = s.rx := by simp only [State.afterSend]; split <;> simp
@[simp] theorem State.afterSend_tx : (s.afterSend k).tx = s.tx := by simp only [State.afterSend]; split <;> simp
@[simp] theorem State.afterSend_txLive : (s.afterSend k).txLive = s.txLive := by
  simp only [State.afterSend]; split <;> simp
@[simp] theorem State.afterSend_now : (s.afterSend k).now = s.now := by simp only [State.afterSend]; split <;> simp
@[simp] theorem State.afterSend_iter : (s.afterSend k).iter = s.iter := by simp only [State.afterSend]; split <;> simp
@[simp] theorem State.afterSend_runStatus : (s.afterSend k).runStatus = s.runStatus := by
  simp only [State.afterSend]; split <;> simp
@[simp] theorem State.afterSend_faulted : (s.afterSend k).faulted = s.faulted := by
  simp only [State.afterSend]; split <;> simp
@[simp] theorem State.afterSend_program : (s.afterSend k).program = s.program := by
  simp only [State.afterSend]; split <;> simp
@[simp] theorem State.afterSend_history : (s.afterSend k).history = s.history := by
  simp only [State.afterSend]; split <;> simp
@[simp] theorem State.afterSend_result : (s.afterSend k).result = s.result := by
  simp only [State.afterSend]; split <;> simp
end afterSend

/-- Everything a Send can do: drop the byte on a full queue, drop it by the environment, or append one byte. -/
theorem send_cases (k : Queue) (b : Byte) (s : State) :
    (s.cfg.capacity ≤ (s.bytes k).length ∧ send k b s = (s.afterSend k).emit (.drop k b)) ∨
    ((s.bytes k).length < s.cfg.capacity ∧ s.sendAct k = .drop ∧ send k b s = s.afterSend k) ∨
    ∃ c, (s.bytes k).length < s.cfg.capacity ∧ (s.sendAct k = .pass ∧ c = b ∨ s.sendAct k = .corrupt c) ∧
      send k b s = (s.afterSend k).withBytes k (s.bytes k ++ [c]) := by
  unfold send
  split
  · next h => exact .inl ⟨h, rfl⟩
  · next h =>
    have h' := Nat.lt_of_not_le h
    cases ha : s.sendAct k with
    | pass => exact .inr (.inr ⟨b, h', .inl ⟨rfl, rfl⟩, rfl⟩)
    | drop => exact .inr (.inl ⟨h', rfl, rfl⟩)
    | corrupt c => exact .inr (.inr ⟨c, h', .inr rfl, rfl⟩)

/-- Under RELIABLE a Send to a queue that is not full appends the byte and does nothing else (R75). -/
theorem send_reliable {s : State} {k : Queue} (hr : s.cfg.env = .reliable)
    (hc : (s.bytes k).length < s.cfg.capacity) (b : Byte) : send k b s = s.withBytes k (s.bytes k ++ [b]) := by
  simp [send, State.sendAct, State.afterSend, hr, Nat.not_le.mpr hc]

section send
variable (k : Queue) (b : Byte) (s : State)
@[simp] theorem send_cfg : (send k b s).cfg = s.cfg := by
  rcases send_cases k b s with ⟨_, h⟩ | ⟨_, _, h⟩ | ⟨c, _, _, h⟩ <;> simp [h]
@[simp] theorem send_rx : (send k b s).rx = s.rx := by
  rcases send_cases k b s with ⟨_, h⟩ | ⟨_, _, h⟩ | ⟨c, _, _, h⟩ <;> simp [h]
@[simp] theorem send_tx : (send k b s).tx = s.tx := by
  rcases send_cases k b s with ⟨_, h⟩ | ⟨_, _, h⟩ | ⟨c, _, _, h⟩ <;> simp [h]
@[simp] theorem send_txLive : (send k b s).txLive = s.txLive := by
  rcases send_cases k b s with ⟨_, h⟩ | ⟨_, _, h⟩ | ⟨c, _, _, h⟩ <;> simp [h]
@[simp] theorem send_now : (send k b s).now = s.now := by
  rcases send_cases k b s with ⟨_, h⟩ | ⟨_, _, h⟩ | ⟨c, _, _, h⟩ <;> simp [h]
@[simp] theorem send_iter : (send k b s).iter = s.iter := by
  rcases send_cases k b s with ⟨_, h⟩ | ⟨_, _, h⟩ | ⟨c, _, _, h⟩ <;> simp [h]
@[simp] theorem send_runStatus : (send k b s).runStatus = s.runStatus := by
  rcases send_cases k b s with ⟨_, h⟩ | ⟨_, _, h⟩ | ⟨c, _, _, h⟩ <;> simp [h]
@[simp] theorem send_faulted : (send k b s).faulted = s.faulted := by
  rcases send_cases k b s with ⟨_, h⟩ | ⟨_, _, h⟩ | ⟨c, _, _, h⟩ <;> simp [h]
@[simp] theorem send_program : (send k b s).program = s.program := by
  rcases send_cases k b s with ⟨_, h⟩ | ⟨_, _, h⟩ | ⟨c, _, _, h⟩ <;> simp [h]
@[simp] theorem send_result : (send k b s).result = s.result := by
  rcases send_cases k b s with ⟨_, h⟩ | ⟨_, _, h⟩ | ⟨c, _, _, h⟩ <;> simp [h]
/-- A Send emits nothing but Drop, and that on a full queue (R75). -/
theorem send_history : (send k b s).history =
    s.history ++ (if s.cfg.capacity ≤ (s.bytes k).length then [.drop k b] else []) := by
  rcases send_cases k b s with ⟨hc, h⟩ | ⟨hc, _, h⟩ | ⟨c, hc, _, h⟩ <;> simp [h] <;> omega
/-- A Send leaves every other queue alone. -/
theorem send_bytes_other {j : Queue} (hj : j ≠ k) : (send k b s).bytes j = s.bytes j := by
  rcases send_cases k b s with ⟨_, h⟩ | ⟨_, _, h⟩ | ⟨c, _, _, h⟩ <;> simp [h, State.bytes_withBytes_other _ hj]
/-- A Send leaves its queue as it was or appends one byte where there was room. -/
theorem send_bytes_same : (send k b s).bytes k = s.bytes k ∨
    (s.bytes k).length < s.cfg.capacity ∧ ∃ c, (send k b s).bytes k = s.bytes k ++ [c] := by
  rcases send_cases k b s with ⟨_, h⟩ | ⟨_, _, h⟩ | ⟨c, hc, _, h⟩
  · simp [h]
  · simp [h]
  · exact .inr ⟨hc, c, by simp [h]⟩
end send

section receive
variable (k : Queue) (s : State)
@[simp] theorem receive_cfg : (receive k s).cfg = s.cfg := rfl
@[simp] theorem receive_rx : (receive k s).rx = s.rx := rfl
@[simp] theorem receive_tx : (receive k s).tx = s.tx := rfl
@[simp] theorem receive_txLive : (receive k s).txLive = s.txLive := rfl
@[simp] theorem receive_now : (receive k s).now = s.now := rfl
@[simp] theorem receive_iter : (receive k s).iter = s.iter := rfl
@[simp] theorem receive_runStatus : (receive k s).runStatus = s.runStatus := rfl
@[simp] theorem receive_faulted : (receive k s).faulted = s.faulted := rfl
@[simp] theorem receive_env : (receive k s).env = s.env := rfl
@[simp] theorem receive_program : (receive k s).program = s.program := rfl
@[simp] theorem receive_history : (receive k s).history = s.history := rfl
@[simp] theorem receive_result : (receive k s).result = s.result := rfl
@[simp] theorem receive_bytes_same : (receive k s).bytes k = (s.bytes k).tail := by simp [receive]
theorem receive_bytes_other {j : Queue} (h : j ≠ k) : (receive k s).bytes j = s.bytes j := by
  simp [receive, State.bytes_withBytes_other _ h]
theorem receive_fifo_other {j : Queue} (h : j ≠ k) : (receive k s).chan.fifo j = s.chan.fifo j := by
  simp [receive, State.withBytes, Channel.fifo_withFifo_other _ _ h]
@[simp] theorem receive_dropNext (j : Queue) : ((receive k s).chan.fifo j).dropNext = (s.chan.fifo j).dropNext := by
  by_cases h : j = k
  · subst h; simp [receive, State.withBytes]
  · rw [receive_fifo_other k s h]
end receive

/-! ### The environment's insertions -/

/-- An insertion does nothing, or appends one byte to a queue of the topology that has room. -/
theorem insertByte_cases (s : State) (i : Queue × Byte) :
    insertByte s i = s ∨
    i.1.isIn s.cfg.topology = true ∧ (s.bytes i.1).length < s.cfg.capacity ∧
      insertByte s i = s.withBytes i.1 (s.bytes i.1 ++ [i.2]) := by
  unfold insertByte
  split
  · next h => exact .inr ⟨h.1, h.2, rfl⟩
  · exact .inl rfl

/-- Under RELIABLE nothing is inserted (R82). -/
theorem insertionPoint_reliable {s : State} (h : s.cfg.env = .reliable) : insertionPoint s = s := by
  simp [insertionPoint, h]

/-- What holds of a state, of its environment's draws used up, and after every insertion, holds after an insertion
point. -/
theorem insertionPoint_induct {P : State → Prop} (hEnv : ∀ s e, P s → P (s.withEnv e))
    (hIns : ∀ s i, P s → P (insertByte s i)) {s : State} (h : P s) : P (insertionPoint s) := by
  unfold insertionPoint
  split
  · exact h
  · have fold : ∀ (l : List (Queue × Byte)) (u : State), P u → P (l.foldl insertByte u) := by
      intro l
      induction l with
      | nil => intro u hu; exact hu
      | cons i l ih => intro u hu; exact ih _ (hIns u i hu)
    exact fold _ _ (hEnv s _ h)

/-- An insertion point changes the queues and the environment's draws, nothing else. -/
theorem insertionPoint_frame (s : State) :
    (insertionPoint s).cfg = s.cfg ∧ (insertionPoint s).rx = s.rx ∧ (insertionPoint s).tx = s.tx ∧
    (insertionPoint s).txLive = s.txLive ∧ (insertionPoint s).now = s.now ∧ (insertionPoint s).iter = s.iter ∧
    (insertionPoint s).runStatus = s.runStatus ∧ (insertionPoint s).faulted = s.faulted ∧
    (insertionPoint s).program = s.program ∧ (insertionPoint s).history = s.history ∧
    (insertionPoint s).result = s.result := by
  refine insertionPoint_induct (P := fun t => t.cfg = s.cfg ∧ t.rx = s.rx ∧ t.tx = s.tx ∧ t.txLive = s.txLive ∧
    t.now = s.now ∧ t.iter = s.iter ∧ t.runStatus = s.runStatus ∧ t.faulted = s.faulted ∧ t.program = s.program ∧
    t.history = s.history ∧ t.result = s.result) ?_ ?_ (by simp)
  · intro u e h; simpa using h
  · intro u i h
    rcases insertByte_cases u i with h' | ⟨_, _, h'⟩ <;> rw [h'] <;> simpa using h

section insertionPoint
variable (s : State)
@[simp] theorem insertionPoint_cfg : (insertionPoint s).cfg = s.cfg := (insertionPoint_frame s).1
@[simp] theorem insertionPoint_rx : (insertionPoint s).rx = s.rx := (insertionPoint_frame s).2.1
@[simp] theorem insertionPoint_tx : (insertionPoint s).tx = s.tx := (insertionPoint_frame s).2.2.1
@[simp] theorem insertionPoint_txLive : (insertionPoint s).txLive = s.txLive := (insertionPoint_frame s).2.2.2.1
@[simp] theorem insertionPoint_now : (insertionPoint s).now = s.now := (insertionPoint_frame s).2.2.2.2.1
@[simp] theorem insertionPoint_iter : (insertionPoint s).iter = s.iter := (insertionPoint_frame s).2.2.2.2.2.1
@[simp] theorem insertionPoint_runStatus : (insertionPoint s).runStatus = s.runStatus :=
  (insertionPoint_frame s).2.2.2.2.2.2.1
@[simp] theorem insertionPoint_faulted : (insertionPoint s).faulted = s.faulted :=
  (insertionPoint_frame s).2.2.2.2.2.2.2.1
@[simp] theorem insertionPoint_program : (insertionPoint s).program = s.program :=
  (insertionPoint_frame s).2.2.2.2.2.2.2.2.1
@[simp] theorem insertionPoint_history : (insertionPoint s).history = s.history :=
  (insertionPoint_frame s).2.2.2.2.2.2.2.2.2.1
@[simp] theorem insertionPoint_result : (insertionPoint s).result = s.result :=
  (insertionPoint_frame s).2.2.2.2.2.2.2.2.2.2
end insertionPoint

/-! ### Clock -/

/-- The Clock stays within its width (R49, R242). -/
theorem tick_lt (s : State) : (tick s).now < 2 ^ (tick s).cfg.tickWidth :=
  Nat.mod_lt _ (Nat.two_pow_pos _)

theorem elapsed_lt (s : State) : elapsed s < 2 ^ s.cfg.tickWidth := Nat.mod_lt _ (Nat.two_pow_pos _)

/-! ### Error entry and fault entry -/

/-- Everything Reject does (R175): the receiver back to AWAIT_START without frame state, one event, the result. -/
theorem reject_eq (reason : RejectReason) (s : State) : reject reason s =
    { s with
      rx := { s.rx with state := .awaitStart, len := 0#8, chk := 0#8, wcur := 0#8, outcome := .error }
      history := s.history ++ [.reject reason]
      result := .rx (.rejected reason) } := rfl

/-- Everything a raise does (R21, R51). -/
theorem raiseFault_eq (reason : FaultReason) (s : State) :
    raiseFault reason s = { s with faulted := true, result := .raised reason } := rfl

theorem State.raised_iff (s : State) : s.raised = true ↔ ∃ r, s.result = .raised r := by
  unfold State.raised
  split
  · next r h => simp [h]
  · next h => simp only [Bool.false_eq_true, false_iff, not_exists]; exact fun r hr => h r hr

end Sys2Proof.Machine
end

