-- ==== Sys2Proof/Laws/Engines.lean ====
section
/-! SUPPORT. What each operation that several meanings share can do: storing a DATA byte, the first entry into BUILD_AND_ARM, sending a frame byte, going on unless a step raised, an action of the environment; and that buffers keep their canonical form. -/

namespace Sys2Proof.Machine

/-- Where storing a DATA byte goes on, and what it leaves (R168, R169). -/
theorem storePayloadByte_eq_next {st : RxState} {b : Byte} {s t : State} (h : storePayloadByte st b s = .next t) :
    s.rx.wcur.toNat < s.cfg.maxPayload ∧
      t = { s with
        rx := { s.rx with buf := Buffer.write s.rx.wcur.toNat b s.rx.buf, chk := s.rx.chk ^^^ b
                          wcur := s.rx.wcur + 1#8, state := st }
        result := .rx .none } := by
  unfold storePayloadByte at h
  split at h
  · next hlt => cases h; exact ⟨hlt, rfl⟩
  · cases h

/-- The first-entry action is the identity once the frame is built (R203). -/
theorem firstEntry_built {s : State} (h : s.tx.built = true) : firstEntry s = .next s := by simp [firstEntry, h]

/-- The first-entry action on an unbuilt frame (R203). -/
theorem firstEntry_unbuilt {s : State} {bs : List Byte} (h : s.tx.built = false)
    (he : encodeFrame s.tx.payload = some bs) :
    firstEntry s = .next { s with
      tx := { s.tx with frame := Buffer.ofList bs, flen := s.tx.plen.zeroExtend 9 + 4#9, attempts := 0#8
                        built := true } } := by
  simp [firstEntry, h, he, State.withTx]

/-- Where the first-entry action goes on, and what it leaves. -/
theorem firstEntry_eq_next {s t : State} (h : firstEntry s = .next t) :
    t.tx.built = true ∧ t.tx.state = s.tx.state ∧ t.tx.payload = s.tx.payload ∧ t = { s with tx := t.tx }
      ∧ (s.tx.built = true → t = s) := by
  unfold firstEntry at h
  split at h
  · next hb => cases h; exact ⟨hb, rfl, rfl, rfl, fun _ => rfl⟩
  · next hb =>
    split at h
    · cases h; exact ⟨rfl, rfl, rfl, rfl, fun hb' => absurd hb' hb⟩
    · cases h

/-- Where sending a frame byte goes on, and what it leaves (R207, R208). -/
theorem sendFrameByte_eq_next {s t : State} (h : sendFrameByte s = .next t) :
    s.tx.cursor.toNat < maxFrame ∧
      t = ((send s.cfg.topology.frames (frameByte s.tx.frame s.tx.cursor.toNat) s).emit
        (.txByte (frameByte s.tx.frame s.tx.cursor.toNat))).withTx { s.tx with cursor := s.tx.cursor + 1#9 } := by
  unfold sendFrameByte at h
  split at h
  · next hlt => cases h; exact ⟨hlt, by simp⟩
  · cases h

/-- A round goes on after a step that completed and did not raise, and ends after one that raised (log entry 10). -/
theorem unlessRaised_eq_next {r : Res} {f : State → Res} {t : State} (h : unlessRaised r f = .next t) :
    ∃ s, r = .next s ∧ (s.raised = true ∧ t = s ∨ s.raised = false ∧ f s = .next t) := by
  obtain ⟨s, hr, hf⟩ := andThen_eq_next h
  refine ⟨s, hr, ?_⟩
  split at hf
  · next hs => cases hf; exact .inl ⟨hs, rfl⟩
  · next hs => exact .inr ⟨by simpa using hs, hf⟩

/-- Where an environment operation goes on: on a queue of the topology, unchanged under RELIABLE, its action under LOSSY. -/
theorem environmentAct_eq_next {k : Queue} {s t : State} {act : Res} (h : environmentAct k s act = .next t) :
    k.isIn s.cfg.topology = true ∧
      (s.cfg.env = .reliable ∧ t = s.ret .nothing ∨ s.cfg.env = .lossy ∧ act = .next t) := by
  unfold environmentAct at h
  split at h
  · next hk =>
    split at h
    · next hr => cases h; exact ⟨hk, .inl ⟨hr, rfl⟩⟩
    · next hl => exact ⟨hk, .inr ⟨hl, h⟩⟩
  · cases h

/-- Under RELIABLE an environment operation on a queue of the topology changes nothing (R82, R50). -/
theorem environmentAct_reliable {k : Queue} {s : State} {act : Res} (h : s.cfg.env = .reliable)
    (hk : k.isIn s.cfg.topology = true) : environmentAct k s act = .next (s.ret .nothing) := by
  simp [environmentAct, h, hk]

/-- Under LOSSY an environment operation on a queue of the topology is its action. -/
theorem environmentAct_lossy {k : Queue} {s : State} {act : Res} (h : s.cfg.env = .lossy)
    (hk : k.isIn s.cfg.topology = true) : environmentAct k s act = act := by simp [environmentAct, h, hk]

/-- An environment operation on a queue the topology does not have has no step. -/
theorem environmentAct_absent {k : Queue} {s : State} {act : Res} (hk : k.isIn s.cfg.topology = false) :
    environmentAct k s act = .refused .noSuchQueue := by simp [environmentAct, hk]

/-- Storing a DATA byte keeps rx_buf in its canonical form. -/
theorem storePayloadByte_wf {st : RxState} {b : Byte} {s t : State} (hb : Buffer.wf s.rx.buf)
    (h : storePayloadByte st b s = .next t) : Buffer.wf t.rx.buf := by
  obtain ⟨_, rfl⟩ := storePayloadByte_eq_next h
  exact Buffer.write_wf hb _ _

/-- Building the frame puts tx_frame in its canonical form. -/
theorem firstEntry_wf {s t : State} (hb : Buffer.wf s.tx.frame) (h : firstEntry s = .next t) :
    Buffer.wf t.tx.frame := by
  unfold firstEntry at h
  split at h
  · cases h; exact hb
  · split at h
    · cases h; exact Buffer.ofList_wf _
    · cases h

/-- The buffers of the reset state are in their canonical form. -/
theorem reset_buffers_wf : Buffer.wf State.reset.rx.buf ∧ Buffer.wf State.reset.tx.frame := ⟨rfl, rfl⟩

end Sys2Proof.Machine
end

