-- ==== Sys2Proof/Laws/PerInstr.lean ====
section
/-! SUPPORT. The family SelectorForm: a transition's selector word is one that some step can form (R115, R116), whatever its
operands; a host operation has no word (R124). One lemma a constructor. -/

namespace Sys2Proof.Laws.SelectorForm

/-- The word of `i`, if it has one, has its reserved bits 0, B = 0 without a byte, and no poll result outside
AWAIT_RESPONSE. -/
def Statement (i : Instr) : Prop := ∀ w, encode i = some w → tselFormed w = true

/-- A word made from its parts is one a step can form if it is an RX word, a word of AWAIT_RESPONSE, or has no byte. -/
theorem tselFormed_tselWord {u : Bool} {c : BitVec 3} {input : Option Byte}
    (h : u = false ∨ c = 3#3 ∨ input = none) : tselFormed (tselWord u c input) = true := by
  cases input <;> rcases h with rfl | rfl | h <;> simp_all [tselFormed]

theorem rxIdle (c : RxState) : Statement (.rxIdle c) :=
  fun _ h => Option.some.inj h ▸ tselFormed_tselWord (.inl rfl)

theorem rxStart : Statement .rxStart := fun _ h => Option.some.inj h ▸ tselFormed_tselWord (.inl rfl)

theorem rxStray (b : Byte) : Statement (.rxStray b) := fun _ h => Option.some.inj h ▸ tselFormed_tselWord (.inl rfl)

theorem rxLenOversize (b : Byte) : Statement (.rxLenOversize b) :=
  fun _ h => Option.some.inj h ▸ tselFormed_tselWord (.inl rfl)

theorem rxLenZero : Statement .rxLenZero := fun _ h => Option.some.inj h ▸ tselFormed_tselWord (.inl rfl)

theorem rxLen (b : Byte) : Statement (.rxLen b) := fun _ h => Option.some.inj h ▸ tselFormed_tselWord (.inl rfl)

theorem rxPayload (b : Byte) : Statement (.rxPayload b) :=
  fun _ h => Option.some.inj h ▸ tselFormed_tselWord (.inl rfl)

theorem rxPayloadLast (b : Byte) : Statement (.rxPayloadLast b) :=
  fun _ h => Option.some.inj h ▸ tselFormed_tselWord (.inl rfl)

theorem rxChkOk (b : Byte) : Statement (.rxChkOk b) := fun _ h => Option.some.inj h ▸ tselFormed_tselWord (.inl rfl)

theorem rxChkBad (b : Byte) : Statement (.rxChkBad b) :=
  fun _ h => Option.some.inj h ▸ tselFormed_tselWord (.inl rfl)

theorem rxEndOk : Statement .rxEndOk := fun _ h => Option.some.inj h ▸ tselFormed_tselWord (.inl rfl)

theorem rxEndBad (b : Byte) : Statement (.rxEndBad b) :=
  fun _ h => Option.some.inj h ▸ tselFormed_tselWord (.inl rfl)

theorem rxIllegal (c : RxState) (b : Byte) : Statement (.rxIllegal c b) :=
  fun _ h => Option.some.inj h ▸ tselFormed_tselWord (.inl rfl)

theorem txInit : Statement .txInit := fun _ h => Option.some.inj h ▸ tselFormed_tselWord (.inr (.inr rfl))

theorem txBuildExhausted : Statement .txBuildExhausted :=
  fun _ h => Option.some.inj h ▸ tselFormed_tselWord (.inr (.inr rfl))

theorem txBuildArm : Statement .txBuildArm := fun _ h => Option.some.inj h ▸ tselFormed_tselWord (.inr (.inr rfl))

theorem txSend : Statement .txSend := fun _ h => Option.some.inj h ▸ tselFormed_tselWord (.inr (.inr rfl))

theorem txSendLast : Statement .txSendLast := fun _ h => Option.some.inj h ▸ tselFormed_tselWord (.inr (.inr rfl))

theorem txAwaitAck : Statement .txAwaitAck := fun _ h => Option.some.inj h ▸ tselFormed_tselWord (.inr (.inl rfl))

theorem txAwaitNack : Statement .txAwaitNack := fun _ h => Option.some.inj h ▸ tselFormed_tselWord (.inr (.inl rfl))

theorem txAwaitStray (b : Byte) : Statement (.txAwaitStray b) :=
  fun _ h => Option.some.inj h ▸ tselFormed_tselWord (.inr (.inl rfl))

theorem txAwaitTimeout : Statement .txAwaitTimeout :=
  fun _ h => Option.some.inj h ▸ tselFormed_tselWord (.inr (.inl rfl))

theorem txAwaitWait : Statement .txAwaitWait := fun _ h => Option.some.inj h ▸ tselFormed_tselWord (.inr (.inl rfl))

theorem txTerminal (c : TxState) : Statement (.txTerminal c) :=
  fun _ h => Option.some.inj h ▸ tselFormed_tselWord (.inr (.inr rfl))

theorem txIllegal (c : TxState) : Statement (.txIllegal c) :=
  fun _ h => Option.some.inj h ▸ tselFormed_tselWord (.inr (.inr rfl))

theorem codecChecksum (len : Byte) (data : List Byte) : Statement (.codecChecksum len data) := fun _ h => nomatch h

theorem codecEncode (payload : List Byte) : Statement (.codecEncode payload) := fun _ h => nomatch h

theorem codecValidate (len : Byte) (data : List Byte) (chk : Byte) : Statement (.codecValidate len data chk) :=
  fun _ h => nomatch h

theorem codecDecode (bytes : List Byte) : Statement (.codecDecode bytes) := fun _ h => nomatch h

theorem rxCreate : Statement .rxCreate := fun _ h => nomatch h

theorem rxStep (input : Option Byte) : Statement (.rxStep input) := fun _ h => nomatch h

theorem txStart (payload : List Byte) : Statement (.txStart payload) := fun _ h => nomatch h

theorem txStep : Statement .txStep := fun _ h => nomatch h

theorem txDestroy : Statement .txDestroy := fun _ h => nomatch h

theorem harnessCreate (cfg : Cfg) : Statement (.harnessCreate cfg) := fun _ h => nomatch h

theorem schedRound (rxEnabled : Bool) : Statement (.schedRound rxEnabled) := fun _ h => nomatch h

theorem schedRun (maxIterations : Nat) (rxEnabled : List Bool) : Statement (.schedRun maxIterations rxEnabled) :=
  fun _ h => nomatch h

theorem envInject (k : Queue) (b : Byte) : Statement (.envInject k b) := fun _ h => nomatch h

theorem envDropNext (k : Queue) : Statement (.envDropNext k) := fun _ h => nomatch h

end Sys2Proof.Laws.SelectorForm
end

