-- ==== Sys2Proof/Tests/Slice0.lean ====
section
/-! SUPPORT. The model's own tests: ill-formed operations, the words of the selector map, one step of every operation on the spec's examples, and a witness for the hypotheses of every obligation that has some. -/

namespace Sys2Proof.Tests

open Sys2Proof Sys2Proof.Machine

/-! ### Ill-formed operations: one term for each check of WellFormed -/

theorem test_wf_stray : (Instr.rxStray 0x02#8).wf = false := by decide
theorem test_wf_len_oversize : (Instr.rxLenOversize 0x00#8).wf = false := by decide
theorem test_wf_len : (Instr.rxLen 0x00#8).wf = false := by decide
theorem test_wf_end_bad : (Instr.rxEndBad 0x03#8).wf = false := by decide
theorem test_wf_rx_illegal : (Instr.rxIllegal .readEnd 0x00#8).wf = false := by decide
theorem test_wf_await_stray :
    (Instr.txAwaitStray 0x06#8).wf = false ∧ (Instr.txAwaitStray 0x15#8).wf = false := by decide
theorem test_wf_terminal : (Instr.txTerminal .awaitResponse).wf = false ∧ (Instr.txTerminal .unused6).wf = false := by
  decide
theorem test_wf_tx_illegal : (Instr.txIllegal .retryExhausted).wf = false := by decide
theorem test_wf_checksum : (Instr.codecChecksum 0x02#8 [0x10#8]).wf = false := by decide
theorem test_wf_validate : (Instr.codecValidate 0x01#8 [] 0x01#8).wf = false := by decide
/-- A payload one byte too long. -/
def p256 : List Byte := List.replicate 256 0x00#8

theorem p256_length : p256.length = 256 := List.length_replicate

/-- A payload of the greatest length. -/
def p255 : List Byte := List.replicate 255 0x00#8

theorem p255_length : p255.length = 255 := List.length_replicate

theorem wf_long (p : List Byte) (h : 255 < p.length) :
    (Instr.codecEncode p).wf = false ∧ (Instr.txStart p).wf = false := by simp [Instr.wf, h]

theorem test_wf_long_payload : (Instr.codecEncode p256).wf = false ∧ (Instr.txStart p256).wf = false :=
  wf_long p256 (by rw [p256_length]; decide)
theorem test_wf_harness_create :
    (Instr.harnessCreate { Cfg.reference with tickWidth := 0, timeout := 0 }).wf = false
      ∧ (Instr.harnessCreate { Cfg.reference with tickWidth := 2, timeout := 4 }).wf = false
      ∧ (Instr.harnessCreate { Cfg.reference with retryLimit := 256 }).wf = false
      ∧ (Instr.harnessCreate { Cfg.reference with maxPayload := 256 }).wf = false
      ∧ (Instr.harnessCreate { Cfg.reference with capacity := 0 }).wf = false
      ∧ (Instr.harnessCreate Cfg.reference).wf = true := by decide

/-! ### Selector words, written field by field from R115, R109, R110 and R118 -/

/-- U, S, reserved, V, B from bit 15 down (R115). -/
def word (u : BitVec 1) (s : BitVec 3) (r : BitVec 3) (v : BitVec 1) (b : BitVec 8) : Tsel := u ++ s ++ r ++ v ++ b

/-- The guards' values of vector V-R1 at its first DATA byte, and of V-T1 to V-T3. -/
def guards : Guards :=
  { maxPayload := 255, rxWcur := 0x00#8, rxLen := 0x03#8, rxChk := 0x03#8, txAttempts := 0x00#8, retryLimit := 3
    txCursor := 0#9, txFlen := 5#9, elapsed := 4, timeout := 5 }

theorem test_decode_rx_idle : decode guards (word 0b0#1 0b100#3 0b000#3 0b0#1 0b00000000#8) = .instr (.rxIdle .readEnd) := by decide
theorem test_decode_rx_start : decode guards (word 0b0#1 0b000#3 0b000#3 0b1#1 0b00000010#8) = .instr .rxStart := by decide
theorem test_decode_rx_stray : decode guards (word 0b0#1 0b000#3 0b000#3 0b1#1 0b00000011#8) = .instr (.rxStray 0x03#8) := by decide
theorem test_decode_rx_len_oversize :
    decode { guards with maxPayload := 2 } (word 0b0#1 0b001#3 0b000#3 0b1#1 0b00000011#8) = .instr (.rxLenOversize 0x03#8) := by decide
theorem test_decode_rx_len_zero : decode guards (word 0b0#1 0b001#3 0b000#3 0b1#1 0b00000000#8) = .instr .rxLenZero := by decide
theorem test_decode_rx_len : decode guards (word 0b0#1 0b001#3 0b000#3 0b1#1 0b11111111#8) = .instr (.rxLen 0xFF#8) := by decide
theorem test_decode_rx_payload :
    decode { guards with rxWcur := 0x01#8 } (word 0b0#1 0b010#3 0b000#3 0b1#1 0b00100000#8) = .instr (.rxPayload 0x20#8) := by decide
theorem test_decode_rx_payload_last :
    decode { guards with rxWcur := 0x02#8 } (word 0b0#1 0b010#3 0b000#3 0b1#1 0b00110000#8) = .instr (.rxPayloadLast 0x30#8) := by decide
theorem test_decode_rx_chk_ok : decode guards (word 0b0#1 0b011#3 0b000#3 0b1#1 0b00000011#8) = .instr (.rxChkOk 0x03#8) := by decide
theorem test_decode_rx_chk_bad : decode guards (word 0b0#1 0b011#3 0b000#3 0b1#1 0b11111100#8) = .instr (.rxChkBad 0xFC#8) := by decide
theorem test_decode_rx_end_ok : decode guards (word 0b0#1 0b100#3 0b000#3 0b1#1 0b00000011#8) = .instr .rxEndOk := by decide
theorem test_decode_rx_end_bad : decode guards (word 0b0#1 0b100#3 0b000#3 0b1#1 0b00000010#8) = .instr (.rxEndBad 0x02#8) := by decide
theorem test_decode_rx_illegal :
    decode guards (word 0b0#1 0b101#3 0b000#3 0b1#1 0b00000010#8) = .instr (.rxIllegal .unused5 0x02#8)
      ∧ decode guards (word 0b0#1 0b111#3 0b000#3 0b0#1 0b00000000#8) = .instr (.rxIdle .unused7) := by decide
theorem test_decode_tx_init : decode guards (word 0b1#1 0b000#3 0b000#3 0b0#1 0b00000000#8) = .instr .txInit := by decide
theorem test_decode_tx_build_exhausted :
    decode { guards with txAttempts := 0x03#8 } (word 0b1#1 0b001#3 0b000#3 0b0#1 0b00000000#8) = .instr .txBuildExhausted := by decide
theorem test_decode_tx_build_arm :
    decode { guards with txAttempts := 0x02#8 } (word 0b1#1 0b001#3 0b000#3 0b0#1 0b00000000#8) = .instr .txBuildArm := by decide
theorem test_decode_tx_send :
    decode { guards with txCursor := 3#9 } (word 0b1#1 0b010#3 0b000#3 0b0#1 0b00000000#8) = .instr .txSend := by decide
theorem test_decode_tx_send_last :
    decode { guards with txCursor := 4#9 } (word 0b1#1 0b010#3 0b000#3 0b0#1 0b00000000#8) = .instr .txSendLast := by decide
theorem test_decode_tx_await_ack : decode guards (word 0b1#1 0b011#3 0b000#3 0b1#1 0b00000110#8) = .instr .txAwaitAck := by decide
theorem test_decode_tx_await_nack : decode guards (word 0b1#1 0b011#3 0b000#3 0b1#1 0b00010101#8) = .instr .txAwaitNack := by decide
theorem test_decode_tx_await_stray :
    decode { guards with elapsed := 5 } (word 0b1#1 0b011#3 0b000#3 0b1#1 0b01000001#8) = .instr (.txAwaitStray 0x41#8) := by decide
theorem test_decode_tx_await_timeout :
    decode { guards with elapsed := 5 } (word 0b1#1 0b011#3 0b000#3 0b0#1 0b00000000#8) = .instr .txAwaitTimeout := by decide
theorem test_decode_tx_await_wait : decode guards (word 0b1#1 0b011#3 0b000#3 0b0#1 0b00000000#8) = .instr .txAwaitWait := by decide
theorem test_decode_tx_terminal :
    decode guards (word 0b1#1 0b100#3 0b000#3 0b0#1 0b00000000#8) = .instr (.txTerminal .success)
      ∧ decode guards (word 0b1#1 0b101#3 0b000#3 0b0#1 0b00000000#8) = .instr (.txTerminal .retryExhausted) := by decide
theorem test_decode_tx_illegal :
    decode guards (word 0b1#1 0b110#3 0b000#3 0b0#1 0b00000000#8) = .instr (.txIllegal .unused6)
      ∧ decode guards (word 0b1#1 0b111#3 0b000#3 0b0#1 0b00000000#8) = .instr (.txIllegal .unused7) := by decide
/-- R119: a reserved bit set, each of the three. -/
theorem test_decode_reserved :
    decode guards (word 0b0#1 0b000#3 0b001#3 0b1#1 0b00000010#8) = .reserved
      ∧ decode guards (word 0b0#1 0b000#3 0b010#3 0b1#1 0b00000010#8) = .reserved
      ∧ decode guards (word 0b1#1 0b000#3 0b100#3 0b0#1 0b00000000#8) = .reserved := by decide
/-- The encoder against words the spec prints (V-R1, V-T5, V-T18). -/
theorem test_encode_words :
    encode .rxStart = some 0x0102#16 ∧ encode (.rxPayloadLast 0x30#8) = some 0x2130#16
      ∧ encode .txAwaitAck = some 0xB106#16 ∧ encode (.txTerminal .success) = some 0xC000#16
      ∧ encode .txSend = some 0xA000#16 ∧ encode .txStep = none := by decide

/-! ### Small states -/

/-- What a next state shows; none where the operation stopped. -/
def after {α : Type} (r : Res) (f : State → α) : Option α :=
  match r with
  | .next s => some (f s)
  | .fault _ => none
  | .refused _ => none

/-- The refusal an operation ended in. -/
def refusal (r : Res) : Option Refusal :=
  match r with
  | .next _ => none
  | .fault _ => none
  | .refused e => some e

/-- The fault an operation ended in. -/
def fault (r : Res) : Option Fault :=
  match r with
  | .next _ => none
  | .fault e => some e
  | .refused _ => none

/-- A harness with an 8-bit Clock, else the reference configuration. -/
def cfg8 : Cfg := { Cfg.reference with tickWidth := 8 }

/-- The frame of [55] (V-C4) as a buffer. -/
def frame55 : Buffer := [(0, 0x02#8), (1, 0x01#8), (2, 0x55#8), (3, 0x54#8), (4, 0x03#8)]

/-- A transmitter of [55] whose frame is built, in its first attempt. -/
def tx55 (st : TxState) (cursor : BitVec 9) : TransmitterContext :=
  { state := st, payload := [0x55#8], plen := 0x01#8, frame := frame55, flen := 5#9, cursor := cursor
    attempts := 0x01#8, waitStart := 4, outcome := .pending, built := true }

/-- A receiver in a state with one DATA byte 55 stored, of the frame of [55]. -/
def rx55 (st : RxState) : ReceiverContext :=
  { state := st, buf := [(0, 0x55#8)], len := 0x01#8, chk := 0x54#8, wcur := 0x01#8, outcome := .pending }

/-- A harness in use: the receiver and the transmitter given, a live context. -/
def inUse (r : ReceiverContext) (t : TransmitterContext) : State :=
  (((State.created cfg8).withRx r).withTx t).withTxLive true

/-- A receiver in the middle of the frame of [10 20 30], the transmitter waiting at tick 6 (wait since 4). -/
def mid : State :=
  (((inUse { state := .readPayload, buf := [(0, 0x10#8)], len := 0x03#8, chk := 0x13#8, wcur := 0x01#8, outcome := .pending }
      (tx55 .awaitResponse 5#9)).withNow 6).withBytes .fwd [0x20#8, 0x30#8]).withProgram [.op (.schedRound true)]

/-- The receiver at the CHK byte of the frame of [55], the transmitter about to send that byte. -/
def atChk : State := inUse (rx55 .readChecksum) (tx55 .sending 3#9)

/-- The receiver at the ETX of the frame of [55], the transmitter about to send it. -/
def atEnd : State := inUse (rx55 .readEnd) (tx55 .sending 4#9)

/-- A fresh message [55] over an idle channel. -/
def fresh : State := inUse .initial (.initial [0x55#8])

/-- A finished message. -/
def done : State := inUse .initial { tx55 .success 5#9 with outcome := .success }

/-- `mid` under a LOSSY environment whose next Sends meet the given actions; then it does nothing. -/
def lossy (acts : List SendAct) : State :=
  (mid.withCfg { cfg8 with env := .lossy }).withEnv { sends := acts, inserts := [], endless := .steady .pass [] }

/-! ### One step of each operation; the expected values are the spec's examples -/

/-- R140 example; a length that is not LEN. -/
theorem test_codec_checksum :
    after (exec (.codecChecksum 0x03#8 [0x10#8, 0x20#8, 0x30#8]) mid) (·.result) = some (.checksum 0x03#8)
      ∧ refusal (exec (.codecChecksum 0x03#8 [0x10#8]) mid) = some .lengthMismatch := by decide
/-- R141 example, V-C6. -/
theorem test_codec_encode :
    after (exec (.codecEncode [0x10#8, 0x20#8, 0x30#8]) mid) (·.result)
        = some (.frame [0x02#8, 0x03#8, 0x10#8, 0x20#8, 0x30#8, 0x03#8, 0x03#8])
      ∧ after (exec (.codecEncode [0x06#8, 0x15#8]) mid) (·.result)
        = some (.frame [0x02#8, 0x02#8, 0x06#8, 0x15#8, 0x11#8, 0x03#8]) := by decide
/-- V-C10, V-C11. -/
theorem test_codec_validate :
    after (exec (.codecValidate 0x01#8 [0x55#8] 0x54#8) mid) (·.result) = some (.valid true)
      ∧ after (exec (.codecValidate 0x01#8 [0x55#8] 0xAB#8) mid) (·.result) = some (.valid false) := by decide
/-- V-C16 to V-C24. -/
theorem test_codec_decode :
    after (exec (.codecDecode [0x02#8, 0x01#8, 0x55#8, 0x54#8, 0x03#8]) mid) (·.result) = some (.decoded (.ok [0x55#8]))
      ∧ after (exec (.codecDecode [0x02#8, 0x01#8, 0x55#8, 0x54#8, 0x04#8]) mid) (·.result) = some (.decoded .framingError) := by
  decide
theorem test_decode_verdicts :
    decodeFrame 255 [0x03#8, 0x01#8, 0x55#8, 0x54#8, 0x03#8] = .notAFrame
      ∧ decodeFrame 255 [0x02#8, 0x01#8, 0x55#8] = .incomplete
      ∧ decodeFrame 255 [0x02#8, 0x01#8, 0x55#8, 0x00#8, 0x03#8] = .checksumMismatch
      ∧ decodeFrame 255 [0x02#8, 0x01#8, 0x55#8, 0x54#8, 0x03#8, 0x00#8] = .trailingBytes
      ∧ decodeFrame 2 [0x02#8, 0x03#8, 0x01#8, 0x02#8, 0x03#8, 0x03#8, 0x03#8] = .oversizedFrame
      ∧ decodeFrame 255 [0x02#8, 0x01#8, 0x55#8, 0x54#8] = .incomplete := by decide
/-- R160 example. -/
theorem test_rx_create :
    after (exec .rxCreate mid) (fun t => (t.rx.state, t.rx.outcome, t.rx.buf)) = some (.awaitStart, .pending, []) := by decide
/-- R162 example. -/
theorem test_rx_idle : after (exec (.rxStep none) atEnd) (fun t => (t.rx, t.result)) = some (atEnd.rx, .rx .none) := by
  decide
/-- R163 example. -/
theorem test_rx_start :
    after (exec .rxStart fresh) (fun t => (t.rx.state, t.result)) = some (.readLength, .rx .none)
      ∧ refusal (exec .rxStart mid) = some .rowNotSelected := by decide
/-- R164 example. -/
theorem test_rx_stray : after (exec (.rxStep (some 0x03#8)) fresh) (fun t => (t.rx, t.result)) = some (fresh.rx, .rx .none) := by
  decide
/-- R165 example. -/
theorem test_rx_len_oversize :
    after (exec (.rxStep (some 0x03#8)) ((inUse (rx55 .readLength) (tx55 .init 0#9)).withCfg { cfg8 with maxPayload := 2 }))
        (fun t => (t.rx.state, t.rx.outcome, t.rx.len, t.result))
      = some (.awaitStart, .error, 0x00#8, .rx (.rejected .oversizedFrame)) := by decide
/-- R166 example. -/
theorem test_rx_len_zero :
    after (exec .rxLenZero (inUse (rx55 .readLength) (tx55 .init 0#9))) (fun t => (t.rx.state, t.rx.chk, t.rx.len))
      = some (.readChecksum, 0x00#8, 0x00#8) := by decide
/-- R167 example. -/
theorem test_rx_len :
    after (exec (.rxLen 0x03#8) (inUse (rx55 .readLength) (tx55 .init 0#9))) (fun t => (t.rx.state, t.rx.len, t.rx.chk, t.rx.wcur))
      = some (.readPayload, 0x03#8, 0x03#8, 0x00#8) := by decide
/-- R168 example, one byte on: rx_buf[1] = 20 and 13 xor 20 = 33. -/
theorem test_rx_payload :
    after (exec (.rxPayload 0x20#8) mid) (fun t => (t.rx.state, t.rx.buf, t.rx.chk, t.rx.wcur))
      = some (.readPayload, [(0, 0x10#8), (1, 0x20#8)], 0x33#8, 0x02#8) := by decide
/-- R169 example. -/
theorem test_rx_payload_last :
    after (exec (.rxPayloadLast 0x30#8)
        (mid.withRx { mid.rx with buf := [(0, 0x10#8), (1, 0x20#8)], wcur := 0x02#8, chk := 0x33#8 }))
        (fun t => (t.rx.state, t.rx.buf, t.rx.chk))
      = some (.readChecksum, [(0, 0x10#8), (1, 0x20#8), (2, 0x30#8)], 0x03#8) := by decide
/-- R170 example. -/
theorem test_rx_chk_ok : after (exec (.rxChkOk 0x54#8) atChk) (·.rx.state) = some .readEnd := by decide
/-- R171 example. -/
theorem test_rx_chk_bad :
    after (exec (.rxChkBad 0xFC#8) atChk) (fun t => (t.rx.state, t.rx.len, t.rx.outcome, t.result))
      = some (.awaitStart, 0x00#8, .error, .rx (.rejected .checksumMismatch)) := by decide
/-- R172 example. -/
theorem test_rx_end_ok :
    after (exec .rxEndOk atEnd) (fun t => (t.bytes .rev, t.history, t.rx.state, t.result))
      = some ([0x06#8], [.ackSent, .deliver [0x55#8]], .awaitStart, .rx .delivered) := by decide
/-- R180: the payload stays readable after the delivery. -/
theorem test_rx_end_ok_keeps_payload :
    after (exec .rxEndOk atEnd) (fun t => rxBytes t.rx.buf t.rx.len.toNat) = some [0x55#8] := by decide
/-- R173 example. -/
theorem test_rx_end_bad :
    after (exec (.rxEndBad 0x02#8) atEnd) (fun t => (t.rx.state, t.rx.outcome, t.result))
      = some (.awaitStart, .error, .rx (.rejected .framingError)) := by decide
/-- R174. -/
theorem test_rx_illegal :
    after (exec (.rxIllegal .unused6 0x02#8) (inUse (rx55 .unused6) (tx55 .init 0#9))) (fun t => (t.faulted, t.rx.state, t.result))
      = some (true, .unused6, .raised .illegalState) := by decide
/-- R200 example; V-T16. -/
theorem test_tx_start :
    after (exec (.txStart [0x55#8]) (mid.withTxLive false)) (fun t => (t.tx.state, t.tx.plen, t.tx.outcome, t.txLive))
        = some (.init, 0x01#8, .pending, true)
      ∧ refusal (exec (.txStart [0x55#8]) mid) = some .contextLive := by decide
/-- V-T1. -/
theorem test_tx_step_first :
    after (exec .txStep fresh) (fun t => (t.bytes .fwd, t.tx.attempts, t.tx.cursor, t.tx.built, t.result))
      = some ([0x02#8], 0x01#8, 1#9, true, .tx .running) := by decide
/-- R212 example. -/
theorem test_tx_step_timeout :
    after (exec .txStep (mid.withNow 9)) (fun t => (t.tx.attempts, t.bytes .fwd, t.result))
      = some (0x02#8, [0x20#8, 0x30#8, 0x02#8], .tx .running) := by decide
/-- R219. -/
theorem test_tx_destroy :
    after (exec .txDestroy done) (·.txLive) = some false ∧ refusal (exec .txDestroy mid) = some .contextLive := by decide
/-- R202 example. -/
theorem test_tx_init : after (exec .txInit fresh) (fun t => (t.tx.state, t.result)) = some (.buildAndArm, .txContinue) := by decide
/-- R204 example. -/
theorem test_tx_build_exhausted :
    after (exec .txBuildExhausted (mid.withTx { tx55 .buildAndArm 5#9 with attempts := 0x03#8 }))
        (fun t => (t.tx.state, t.tx.outcome, t.history, t.result))
      = some (.retryExhausted, .retryExhausted, [.txDone .retryExhausted], .tx .done) := by decide
/-- R203, R205 examples: the first entry builds the frame, tx_attempts 0 to 1. -/
theorem test_tx_build_arm :
    after (exec .txBuildArm (fresh.withTx { fresh.tx with state := .buildAndArm }))
        (fun t => (t.tx.frame, t.tx.flen, t.tx.attempts, t.tx.state, t.result))
      = some (frame55, 5#9, 0x01#8, .sending, .txContinue) := by decide
/-- R207 example. -/
theorem test_tx_send :
    after (exec .txSend (inUse .initial (tx55 .sending 0#9))) (fun t => (t.bytes .fwd, t.tx.cursor, t.history, t.result))
      = some ([0x02#8], 1#9, [.txByte 0x02#8], .tx .running) := by decide
/-- R208 example. -/
theorem test_tx_send_last :
    after (exec .txSendLast ((inUse .initial { tx55 .sending 4#9 with waitStart := 0 }).withNow 4))
        (fun t => (t.bytes .fwd, t.tx.waitStart, t.tx.state))
      = some ([0x03#8], 4, .awaitResponse) := by decide
/-- R209 example. -/
theorem test_tx_await_ack :
    after (exec .txAwaitAck (mid.withBytes .rev [0x06#8, 0x41#8])) (fun t => (t.tx.state, t.tx.outcome, t.bytes .rev, t.result))
      = some (.success, .success, [0x41#8], .tx .done) := by decide
/-- R210 example. -/
theorem test_tx_await_nack :
    after (exec .txAwaitNack (mid.withBytes .rev [0x15#8])) (fun t => (t.tx.state, t.tx.attempts, t.bytes .rev, t.result))
      = some (.buildAndArm, 0x01#8, [], .tx .running) := by decide
/-- R211 example, under SHARED. -/
theorem test_tx_await_stray :
    after (exec .txStep ((mid.withCfg { cfg8 with topology := .shared }).withBytes .q [0x01#8])) (fun t => (t.tx.state, t.bytes .q))
      = some (.awaitResponse, []) := by decide
/-- R212, the row alone. -/
theorem test_tx_await_timeout :
    after (exec .txAwaitTimeout (mid.withNow 9)) (fun t => (t.tx.state, t.result)) = some (.buildAndArm, .txContinue) := by decide
/-- R213 example. -/
theorem test_tx_await_wait :
    after (exec .txAwaitWait (mid.withNow 8)) (fun t => (t.tx, t.result)) = some (mid.tx, .tx .running)
      ∧ refusal (exec .txAwaitWait (mid.withNow 9)) = some .rowNotSelected := by decide
/-- R215 example. -/
theorem test_tx_terminal : after (exec .txStep done) (fun t => (t.tx, t.result)) = some (done.tx, .tx .done) := by decide
/-- R216. -/
theorem test_tx_illegal :
    after (exec (.txIllegal .unused7) (inUse .initial (tx55 .unused7 0#9))) (fun t => (t.faulted, t.result))
      = some (true, .raised .illegalState) := by decide
/-- R221, V-T15: W = 4, now = 2, tx_wait_start = 13, Elapsed = 5. -/
theorem test_elapsed_wraps :
    elapsed (((mid.withCfg { cfg8 with tickWidth := 4 }).withTx { mid.tx with waitStart := 13 }).withNow 2) = 5 := by decide
/-- R240 example; a TIMEOUT past the Clock. -/
theorem test_harness_create :
    after (exec (.harnessCreate cfg8) mid) (fun t => (t.bytes .fwd, t.now, t.rx.state, t.txLive)) = some ([], 0, .awaitStart, false)
      ∧ refusal (exec (.harnessCreate { cfg8 with timeout := 256 }) mid) = some .badConfiguration := by decide
/-- R243 example, V-S6. -/
theorem test_sched_round :
    after (exec (.schedRound true) fresh) (fun t => (t.rx.state, t.bytes .fwd, t.now, t.result))
      = some (.awaitStart, [0x02#8], 1, .round (some .none) (some .running)) := by decide
/-- R244, V-T14: the RX's ACK is there for the TX's poll in the same round. -/
theorem test_sched_round_ack :
    after (exec (.schedRound true) (((atEnd.withTx (tx55 .awaitResponse 5#9)).withBytes .fwd [0x03#8]).withNow 5))
        (fun t => (t.tx.state, t.bytes .rev, t.result))
      = some (.success, [], .round (some .delivered) (some .done)) := by decide
/-- V-S3, V-S4. -/
theorem test_sched_run :
    after (exec (.schedRun 100 []) done) (·.result) = some (.run .terminal 0)
      ∧ refusal (exec (.schedRun 100 []) (done.withTxLive false)) = some .noTransmitter := by decide
/-- R246, R276: an exhausted budget. -/
theorem test_sched_run_budget :
    after (exec (.schedRun 1 [false]) mid) (fun t => (t.result, t.faulted, t.history))
      = some (.run .budgetExhausted 1, true, [.harnessFault .budgetExhausted]) := by decide
/-- R82 (c), R124; a queue the topology does not have; a full queue; under RELIABLE nothing is inserted. -/
theorem test_env_inject :
    after (exec (.envInject .fwd 0x41#8) (lossy [])) (·.bytes .fwd) = some [0x20#8, 0x30#8, 0x41#8]
      ∧ refusal (exec (.envInject .q 0x41#8) (lossy [])) = some .noSuchQueue
      ∧ refusal (exec (.envInject .fwd 0x41#8) (mid.withCfg { cfg8 with env := .lossy, capacity := 2 })) = some .queueFull
      ∧ after (exec (.envInject .fwd 0x41#8) mid) (·.bytes .fwd) = some [0x20#8, 0x30#8] := by decide
/-- V-T5, its last round: an ACK inserted before r9 beats the timeout. -/
theorem test_env_inject_tie :
    after (exec (.envInject .rev 0x06#8) ((lossy []).withNow 9)) (fun t => after (exec .txStep t) (fun u => (u.tx.state, u.tx.attempts)))
      = some (some (.success, 0x01#8)) := by decide
/-- R82 (a), V-S7: the next Send on REV is dropped; under RELIABLE it is not (R82). -/
theorem test_env_drop_next :
    after (exec (.envDropNext .rev) (atEnd.withCfg { cfg8 with env := .lossy })) (fun t => after (exec .rxEndOk t) (·.bytes .rev))
      = some (some [])
      ∧ after (exec (.envDropNext .rev) atEnd) (fun t => after (exec .rxEndOk t) (·.bytes .rev)) = some (some [0x06#8]) := by
  decide
/-- R82 (c), R243: an insertion point appends its draw, to queues of the topology that are not full. -/
theorem test_insertion_point :
    (insertionPoint (((lossy []).withCfg { cfg8 with env := .lossy, capacity := 3 }).withEnv
        { sends := [], inserts := [[(.fwd, 0x41#8), (.q, 0x42#8), (.fwd, 0x43#8), (.rev, 0x15#8)], []]
          endless := .steady .pass [] })).chan
      = { fwd := { bytes := [0x20#8, 0x30#8, 0x41#8], dropNext := false }, rev := { bytes := [0x15#8], dropNext := false }
          q := { bytes := [], dropNext := false } } := by decide
/-- R78, V-S5: a full queue drops the byte sent. -/
theorem test_send_full :
    (send .fwd 0x54#8 ((mid.withCfg { cfg8 with capacity := 2 }))).bytes .fwd = [0x20#8, 0x30#8]
      ∧ (send .fwd 0x54#8 ((mid.withCfg { cfg8 with capacity := 2 }))).history = [.drop .fwd 0x54#8] := by decide

/-- R82 (c), R243 under SHARED: a byte inserted after the round's Receive refills the full queue, so the ACK of the
delivering step overflows. -/
theorem test_insertion_after_receive :
    after (exec (.schedRound true)
        (((atEnd.withCfg { cfg8 with env := .lossy, topology := .shared, capacity := 1 }).withBytes .q [0x03#8]).withTxLive false
          |>.withEnv { sends := [], inserts := [[], [(.q, 0x41#8)]], endless := .steady .pass [] }))
        (fun t => (t.bytes .q, t.history))
      = some ([0x41#8], [.drop .q 0x06#8, .ackSent, .deliver [0x55#8]]) := by decide
/-- R309: a byte inserted in every round holds the TX in AWAIT_RESPONSE past its timeout. -/
theorem test_stray_storm :
    after (exec (.schedRun 9 []) (((mid.withCfg { cfg8 with env := .lossy }).withBytes .fwd []).withEnv
        { sends := [], inserts := [], endless := .steady .pass [(.rev, 0x41#8)] }))
        (fun t => (t.tx.state, t.tx.attempts, t.runStatus)) = some (.awaitResponse, 0x01#8, .budgetExhausted) := by decide

/-! ### Ports -/

/-- A 255 x 8 data port that carries 55 in its byte 0. -/
def data55 : DataPort := (Vector.replicate 255 0x00#8).set 0 0x55#8

/-- R123: tx_start with length 1 starts the message [55], the port's other bytes ignored. -/
theorem test_tx_start_ports :
    after (txInvoke (.start 0x01#8 data55) (mid.withTxLive false)) (·.tx.payload) = some [0x55#8] := rfl
/-- R123: the step of V-T1 shows its byte; a step in AWAIT_RESPONSE shows the polled byte. -/
theorem test_tx_ports :
    (txPorts .step fresh).out = some 0x02#8 ∧ (txPorts .step fresh).poll = false
      ∧ (txPorts .step (mid.withBytes .rev [0x06#8])).resp = some 0x06#8
      ∧ (txPorts .step (mid.withBytes .rev [0x06#8])).outcome = 1#2
      ∧ (txPorts .idle mid).result = none := by decide
/-- R122: after a rejection rx_out_len is 0 and rx_out_data still shows rx_buf, of MAX_PAYLOAD bytes. -/
theorem test_rx_ports_rejection :
    (rxPorts { step := true, inValid := true, inByte := 0xFC#8 } (atChk.withCfg { cfg8 with maxPayload := 1 })).outData = [0x55#8]
      ∧ (rxPorts { step := true, inValid := true, inByte := 0xFC#8 } (atChk.withCfg { cfg8 with maxPayload := 1 })).outLen = 0x00#8
      ∧ (rxPorts { step := true, inValid := true, inByte := 0xFC#8 } (atChk.withCfg { cfg8 with maxPayload := 1 })).reason = some 2#2 := by
  decide
/-- R122: a step that raises returns no result, and rx_outcome still shows. -/
theorem test_rx_ports_raise :
    (rxPorts { step := true, inValid := true, inByte := 0x00#8 } (inUse (rx55 .unused5) (tx55 .init 0#9))).result = none
      ∧ (rxPorts { step := true, inValid := true, inByte := 0x00#8 } (inUse (rx55 .unused5) (tx55 .init 0#9))).outLen = 0x01#8 := by
  decide

/-! ### Fetching -/

/-- A placed word runs as the first step after reset: RX_LEN of 03 and TX_AWAIT_NACK. -/
theorem test_fetch_word :
    after (step (State.reset.withFetchWord 16 0x1103)) (fun t => (t.rx.state, t.rx.len)) = some (.readPayload, 0x03#8)
      ∧ after (step (State.reset.withFetchWord 16 0xB115)) (·.tx.state) = some .buildAndArm := by decide
/-- A program of two operations: the first one runs, the second stays. -/
theorem test_fetch_op :
    after (step (fresh.withProgram [.op .txStep, .op .txDestroy])) (fun t => (t.bytes .fwd, t.program))
      = some ([0x02#8], [.op .txDestroy]) := by decide

/-! ### Witnesses: states and operands that meet the hypotheses of the obligations -/

theorem mid_inv : mid.Inv where
  rx :=
    { legal := by decide, buf := by decide, len := by decide, idle := by decide, rejected := by decide
      delivered := by decide, cursor := by decide, stored := by decide, written := by decide, chk := by decide
      payload := by decide }
  tx :=
    { legal := by decide, plen := by decide, frame := fun _ => ⟨[0x02#8, 0x01#8, 0x55#8, 0x54#8, 0x03#8], by decide⟩
      unbuilt := by decide, cursor := by decide, sending := by decide, awaiting := by decide, attempts := by decide
      wait := by decide, outcome := by decide }
  harness :=
    { range := by decide, clock := by decide, capacity := fun k => by cases k <;> decide
      topology := fun k => by cases k <;> decide }

theorem fresh_inv : fresh.Inv where
  rx :=
    { legal := by decide, buf := by decide, len := by decide, idle := by decide, rejected := by decide
      delivered := by decide, cursor := by decide, stored := by decide, written := by decide, chk := by decide
      payload := by decide }
  tx :=
    { legal := by decide, plen := by decide, frame := by decide, unbuilt := by decide, cursor := by decide
      sending := by decide, awaiting := by decide, attempts := by decide, wait := by decide, outcome := by decide }
  harness :=
    { range := by decide, clock := by decide, capacity := fun k => by cases k <;> decide
      topology := fun k => by cases k <;> decide }

theorem atChk_rx_inv : RxInv atChk :=
  { legal := by decide, buf := by decide, len := by decide, idle := by decide, rejected := by decide
    delivered := by decide, cursor := by decide, stored := by decide, written := by decide, chk := by decide
    payload := by decide }

/-! Encoding and fetch. -/

theorem test_meets_KnownSelectorWordsDecode :
    3 ≤ ({ guards with maxPayload := 3 } : Guards).maxPayload ∧ ({ guards with maxPayload := 2 } : Guards).maxPayload < 3
      ∧ guards.rxWcur + 1#8 < guards.rxLen ∧ 0x01#8 + 1#8 < guards.rxLen ∧ 0x02#8 + 1#8 = guards.rxLen
      ∧ guards.rxChk = 0x03#8 ∧ guards.rxChk ≠ 0xFC#8 ∧ (0x02#8).toNat < guards.retryLimit
      ∧ guards.retryLimit ≤ (0x03#8).toNat ∧ 3#9 + 1#9 < guards.txFlen ∧ 4#9 + 1#9 = guards.txFlen
      ∧ guards.elapsed < guards.timeout ∧ guards.timeout ≤ 5 := by decide
theorem test_meets_DecodeOfEncodeIsTheTransition :
    (Instr.rxLen 0xFF#8).wf = true ∧ (Instr.rxLen 0xFF#8).admitted guards = true
      ∧ encode (.rxLen 0xFF#8) = some 0x11FF#16 := by decide
theorem test_meets_EncodeOfDecodeIsTheFormedWord :
    tselFormed 0xB1FF#16 = true ∧ decode guards 0xB1FF#16 = .instr (.txAwaitStray 0xFF#8) := by decide
theorem test_meets_ExactlyOneRowMatchesAFormedWord : mid.Inv := mid_inv
theorem test_meets_StepRunsTheFetchedOperation :
    (fresh.withProgram [.op .txStep]).program = .op .txStep :: []
      ∧ fetch (.op .txStep) (fresh.withProgram [.op .txStep]) = .instr .txStep
      ∧ decode (guardsOf mid) 0x2120#16 = .instr (.rxPayload 0x20#8)
      ∧ (mid.withProgram [.tsel 0x0200#16]).program = .tsel 0x0200#16 :: []
      ∧ decode (guardsOf (mid.withProgram [.tsel 0x0200#16])) 0x0200#16 = .reserved
      ∧ ((mid.withRx { mid.rx with len := 0x00#8 }).withProgram [.tsel 0x2120#16]).program = .tsel 0x2120#16 :: []
      ∧ decode (guardsOf ((mid.withRx { mid.rx with len := 0x00#8 }).withProgram [.tsel 0x2120#16])) 0x2120#16 = .noRow
      ∧ fresh.program = [] := by decide

/-! FrameCodec. -/

theorem test_meets_ChecksumIsTheXorFold :
    [0x10#8].length = (0x01#8).toNat ∧ ([] : List Byte).length ≠ (0xFF#8).toNat
      ∧ [0x10#8, 0x20#8].Perm [0x20#8, 0x10#8] := ⟨by decide, by decide, .swap _ _ _⟩
theorem test_meets_EncodeReturnsTheFrame : p255.length ≤ 255 ∧ 255 < p256.length := by
  rw [p255_length, p256_length]; decide
theorem test_meets_ValidateComparesWithTheFold :
    ([] : List Byte).length = (0x00#8).toNat ∧ ([] : List Byte).length ≠ (0x01#8).toNat := by decide
theorem test_meets_DecodeOfEncodeIsThePayload :
    encodeFrame [0x55#8] = some [0x02#8, 0x01#8, 0x55#8, 0x54#8, 0x03#8] ∧ [0x55#8].length ≤ 1 ∧ 0 < [0x55#8].length := by
  decide
theorem test_meets_ChecksumDetectsOneChangedByte :
    validateChecksum 0x02#8 [0x01#8, 0x00#8] 0x03#8 = true ∧ 1 < [0x01#8, 0x00#8].length ∧ 0x00#8 ≠ 0x01#8
      ∧ (0xFC#8 : Byte) ≠ 0x03#8 ∧ 0 < [0x01#8, 0x00#8].length ∧ (0 : Nat) ≠ 1 := by decide
theorem test_meets_CodecHasNoSideEffects :
    (∃ t, exec (.codecChecksum 0x00#8 []) mid = .next t) ∧ (∃ t, exec (.codecEncode []) mid = .next t)
      ∧ (∃ t, exec (.codecValidate 0x00#8 [] 0x01#8) mid = .next t) ∧ (∃ t, exec (.codecDecode []) mid = .next t)
      ∧ fresh.cfg.maxPayload = mid.cfg.maxPayload := ⟨⟨_, rfl⟩, ⟨_, rfl⟩, ⟨_, rfl⟩, ⟨_, rfl⟩, rfl⟩

/-! ReceiverEngine. -/

/-- A receiver at the LEN byte, MAX_PAYLOAD = 2. -/
def atLen : State := (inUse (rx55 .readLength) (tx55 .init 0#9)).withCfg { cfg8 with maxPayload := 2 }

theorem test_meets_IdleStartAndStraySteps : fresh.rx.state = .awaitStart ∧ (0x03#8 : Byte) ≠ 0x02#8 := by decide
theorem test_meets_LengthByteSteps :
    atLen.rx.state = .readLength ∧ atLen.cfg.maxPayload < (0x03#8).toNat ∧ 1 ≤ (0x01#8).toNat
      ∧ (0x02#8).toNat ≤ atLen.cfg.maxPayload := by decide
/-- The boundary of each clause: the first DATA byte, the 255th, and a buffer without index rx_wcur. -/
theorem test_meets_PayloadByteSteps :
    (mid.withRx { mid.rx with wcur := 0x00#8 }).rx.state = .readPayload ∧ (0x00#8).toNat < mid.cfg.maxPayload
      ∧ 0x00#8 + 1#8 < mid.rx.len
      ∧ (mid.withRx { mid.rx with wcur := 0xFE#8, len := 0xFF#8 }).rx.state = .readPayload
      ∧ (0xFE#8).toNat < mid.cfg.maxPayload ∧ 0xFE#8 + 1#8 = 0xFF#8
      ∧ (mid.withCfg { cfg8 with maxPayload := 1 }).rx.state = .readPayload
      ∧ (mid.withCfg { cfg8 with maxPayload := 1 }).cfg.maxPayload ≤ mid.rx.wcur.toNat
      ∧ mid.rx.wcur + 1#8 < mid.rx.len ∧ mid.rx.wcur + 1#8 = 0x02#8 := by decide
theorem test_meets_ChecksumByteSteps :
    atChk.rx.state = .readChecksum ∧ 0x54#8 = atChk.rx.chk ∧ 0x55#8 ≠ atChk.rx.chk ∧ RxInv atChk :=
  ⟨by decide, by decide, by decide, atChk_rx_inv⟩
theorem test_meets_EndByteSteps :
    atEnd.rx.state = .readEnd ∧ atEnd.rx.len.toNat ≤ (atEnd.withCfg { cfg8 with maxPayload := 1 }).cfg.maxPayload
      ∧ (atEnd.withCfg { cfg8 with maxPayload := 0 }).cfg.maxPayload < atEnd.rx.len.toNat ∧ (0x02#8 : Byte) ≠ 0x03#8 := by
  decide
theorem test_meets_UnusedRxCodesRaise :
    RxState.isUnused .unused5 = true ∧ (inUse (rx55 .unused5) (tx55 .init 0#9)).rx.state = .unused5
      ∧ RxState.isUnused .unused7 = true ∧ (inUse (rx55 .unused7) (tx55 .init 0#9)).rx.state = .unused7 := by decide
theorem test_meets_RxStepAppliesTheMatchingRow :
    decode (guardsOf mid) (rxTsel (some 0x20#8) mid) = .instr (.rxPayload 0x20#8)
      ∧ decode (guardsOf mid) (rxTsel none mid) = .instr (.rxIdle .readPayload) := by decide
theorem test_meets_RxStepCompletes : RxInv mid ∧ RxInv atChk := ⟨mid_inv.rx, atChk_rx_inv⟩
theorem test_meets_RejectionLeavesNoPartialFrame :
    after (exec (.rxStep (some 0xFC#8)) atChk) (·.result) = some (.rx (.rejected .checksumMismatch)) := by decide
theorem test_meets_RxSendsOnlyTheAckOfADelivery :
    after (exec (.rxStep (some 0x03#8)) atEnd) (·.result) = some (.rx .delivered)
      ∧ after (exec (.rxStep (some 0x20#8)) mid) (·.result) = some (.rx .none) := by decide
/-- R147's cases on their shortest lists; the states of an incomplete list at each of its lengths. -/
theorem test_meets_ReceiverAgreesWithDecode :
    fresh.rx.state = .awaitStart ∧ decodeFrame 255 [0x02#8, 0x00#8, 0x00#8, 0x03#8] = .ok []
      ∧ decodeFrame 2 [0x02#8, 0x03#8] = .oversizedFrame ∧ decodeFrame 255 [0x02#8, 0x00#8, 0x01#8] = .checksumMismatch
      ∧ decodeFrame 255 [0x02#8, 0x00#8, 0x00#8, 0x04#8] = .framingError ∧ decodeFrame 255 [0x02#8] = .incomplete
      ∧ decodeFrame 255 [0x02#8, 0x01#8] = .incomplete ∧ decodeFrame 255 [0x02#8, 0x00#8] = .incomplete
      ∧ decodeFrame 255 [0x02#8, 0x00#8, 0x00#8] = .incomplete := by decide
theorem test_meets_ReceiverResynchronisesWithin258Bytes :
    RxInv mid ∧ (0x00#8 :: 0x00#8 :: p256).length = 258 :=
  ⟨mid_inv.rx, by rw [List.length_cons, List.length_cons, p256_length]⟩

/-! TransmitterEngine. -/

theorem test_meets_TxStartCapturesThePayload :
    p255.length ≤ 255 ∧ 255 < p256.length ∧ (mid.withTxLive false).txLive = false ∧ mid.txLive = true :=
  ⟨Nat.le_of_eq p255_length, Nat.lt_of_lt_of_eq (by decide) p256_length.symm, rfl, rfl⟩
theorem test_meets_TxDestroyNeedsATerminalState :
    done.tx.state = .success ∧ (inUse .initial (tx55 .retryExhausted 5#9)).tx.state = .retryExhausted
      ∧ mid.tx.state ≠ .success ∧ mid.tx.state ≠ .retryExhausted := by decide
/-- With RETRY_LIMIT = 3: 2 attempts made, then 3. -/
theorem test_meets_InitAndLaterBuildAndArmSteps :
    fresh.tx.state = .init ∧ (tx55 .buildAndArm 5#9).state = .buildAndArm ∧ (tx55 .buildAndArm 5#9).built = true
      ∧ (0x02#8).toNat < mid.cfg.retryLimit ∧ mid.cfg.retryLimit ≤ (0x03#8).toNat := by decide
theorem test_meets_FirstBuildAndArmSteps :
    (fresh.withTx { fresh.tx with state := .buildAndArm }).tx.state = .buildAndArm ∧ fresh.tx.built = false
      ∧ encodeFrame fresh.tx.payload = some [0x02#8, 0x01#8, 0x55#8, 0x54#8, 0x03#8]
      ∧ 0 < (fresh.withCfg { cfg8 with retryLimit := 1 }).cfg.retryLimit
      ∧ (fresh.withCfg { cfg8 with retryLimit := 0 }).cfg.retryLimit = 0
      ∧ 255 < (TransmitterContext.initial p256).payload.length :=
  ⟨by decide, by decide, by decide, by decide, by decide, Nat.lt_of_lt_of_eq (by decide) p256_length.symm⟩
/-- Each clause at its boundary: the first byte, the last, and cursor 259. -/
theorem test_meets_SendSteps :
    (tx55 .sending 0#9).state = .sending ∧ Buffer.read (0#9).toNat frame55 = some 0x02#8 ∧ (0#9).toNat < 259
      ∧ 0#9 + 1#9 < 5#9 ∧ Buffer.read (4#9).toNat frame55 = some 0x03#8 ∧ (4#9).toNat < 259 ∧ 4#9 + 1#9 = 5#9
      ∧ 259 ≤ (259#9).toNat ∧ 259#9 + 1#9 < 261#9 ∧ 259#9 + 1#9 = 260#9 := by decide
theorem test_meets_ResponseByteSteps :
    mid.tx.state = .awaitResponse
      ∧ (mid.withBytes .rev [0x06#8]).bytes (mid.withBytes .rev [0x06#8]).cfg.topology.responses = 0x06#8 :: []
      ∧ (mid.withBytes .rev [0x15#8]).bytes (mid.withBytes .rev [0x15#8]).cfg.topology.responses = 0x15#8 :: []
      ∧ (mid.withBytes .rev [0x41#8]).bytes (mid.withBytes .rev [0x41#8]).cfg.topology.responses = 0x41#8 :: []
      ∧ (0x41#8 : Byte) ≠ 0x06#8 ∧ (0x41#8 : Byte) ≠ 0x15#8 := by decide
/-- TIMEOUT = 5, tx_wait_start = 4: Elapsed 5 at tick 9, 4 at tick 8. -/
theorem test_meets_SilenceSteps :
    mid.tx.state = .awaitResponse ∧ mid.bytes mid.cfg.topology.responses = []
      ∧ mid.cfg.timeout ≤ elapsed (mid.withNow 9) ∧ elapsed (mid.withNow 8) < mid.cfg.timeout := by decide
theorem test_meets_TerminalAndUnusedTxCodes :
    done.tx.state = .success ∧ TxState.isTerminal .success = true
      ∧ (inUse .initial (tx55 .unused6 0#9)).tx.state = .unused6 ∧ TxState.isUnused .unused6 = true := by decide
theorem test_meets_TxStepChainsTransitions :
    decode (guardsOf fresh) (txTsel fresh) = .instr .txInit
      ∧ after (exec .txInit fresh) (·.result) = some .txContinue
      ∧ decode (guardsOf mid) (txTsel mid) = .instr .txAwaitWait
      ∧ after (exec .txAwaitWait mid) (·.result) = some (.tx .running) := by decide
theorem test_meets_TxStepCompletes : TxInv mid ∧ TxInv fresh := ⟨mid_inv.tx, fresh_inv.tx⟩
theorem test_meets_FirstTxStepSendsStx :
    TxInv fresh ∧ fresh.tx.state = .init ∧ fresh.tx.built = false ∧ 0 < fresh.cfg.retryLimit :=
  ⟨fresh_inv.tx, by decide, by decide, by decide⟩
/-- The tie of R214: Elapsed = TIMEOUT and a byte there. -/
theorem test_meets_ReceivedByteBeatsTheTimeout :
    ((mid.withNow 9).withBytes .rev [0x06#8]).tx.state = .awaitResponse
      ∧ ((mid.withNow 9).withBytes .rev [0x06#8]).bytes mid.cfg.topology.responses = 0x06#8 :: []
      ∧ elapsed ((mid.withNow 9).withBytes .rev [0x06#8]) = mid.cfg.timeout := by decide
theorem test_meets_TxStepMovesAtMostOneByte :
    (∃ t, exec .txStep mid = .next t) ∧ (∃ t, exec .txStep fresh = .next t)
      ∧ ∃ t, exec .txStep (mid.withBytes .rev [0x15#8]) = .next t := ⟨⟨_, rfl⟩, ⟨_, rfl⟩, ⟨_, rfl⟩⟩
theorem test_meets_PayloadAndBuiltFrameAreFixed :
    (∀ p, Instr.txStep ≠ .txStart p) ∧ (∀ c, Instr.txStep ≠ .harnessCreate c) ∧ (∃ t, exec .txStep mid = .next t)
      ∧ mid.tx.built = true := ⟨nofun, nofun, ⟨_, rfl⟩, rfl⟩
/-- W = 4, tx_wait_start = 13, the greatest count, 15. -/
theorem test_meets_ElapsedCountsAcrossOneWrap : 13 < 2 ^ 4 ∧ 15 < 2 ^ 4 ∧ 12 = (13 + 15) % 2 ^ 4 := by decide
theorem test_meets_AttemptsNeverExceedTheRetryLimit :
    (fresh.withProgram [.op .txStep]).tx.attempts.toNat ≤ fresh.cfg.retryLimit
      ∧ ∃ t, step (fresh.withProgram [.op .txStep]) = .next t := ⟨by decide, ⟨_, rfl⟩⟩

/-! Harness, Channel, environment. -/

/-- Each bound of R8 to R13 reached, and passed. -/
theorem test_meets_HarnessCreateMakesTheHarness :
    (1 ≤ 1 ∧ 1 < 2 ^ 1 ∧ 255 ≤ 255 ∧ 255 ≤ 255 ∧ 1 ≤ 1) ∧ ¬ (1 ≤ 0) ∧ ¬ (2 < 2 ^ 1) ∧ ¬ (256 ≤ 255) := by decide
theorem test_meets_RoundStepsReceiverThenTransmitterThenClock :
    mid.Inv ∧ mid.txLive = true ∧ (mid.withTxLive false).txLive = false := ⟨mid_inv, rfl, rfl⟩
theorem test_meets_ClockAdvancesOnlyInRounds :
    after (exec (.schedRound true) mid) (·.raised) = some false
      ∧ after (exec (.schedRun 2 []) mid) (·.raised) = some false ∧ mid.now < 2 ^ mid.cfg.tickWidth
      ∧ ∃ t, exec .txStep mid = .next t := ⟨by decide, by decide, by decide, ⟨_, rfl⟩⟩
theorem test_meets_RunEndsTerminalOrExhausted :
    mid.Inv ∧ mid.txLive = true ∧ mid.tx.state.isTerminal = false ∧ done.txLive = true
      ∧ done.tx.state.isTerminal = true ∧ (done.withTxLive false).txLive = false := ⟨mid_inv, rfl, rfl, rfl, rfl, rfl⟩
/-- The bound of PR-3: 3 x (5 - 1 + 5) + 1 = 28. -/
theorem test_meets_RunIsTerminalWithinTheBound :
    fresh.Inv ∧ fresh.txLive = true ∧ fresh.cfg.topology = .duplex ∧ fresh.cfg.env = .reliable
      ∧ (∀ b ∈ fresh.bytes .rev, b = 0x06#8) ∧ fresh.tx.state = .init ∧ fresh.tx.built = false
      ∧ roundBound fresh.cfg fresh.tx.payload.length = 28 :=
  ⟨fresh_inv, by decide, by decide, by decide, by decide, by decide, by decide, by decide⟩
theorem test_meets_MessageIsDeliveredEndToEnd :
    fresh.Inv ∧ fresh.txLive = true ∧ fresh.cfg.topology = .duplex ∧ fresh.cfg.env = .reliable
      ∧ 0 < fresh.cfg.retryLimit ∧ fresh.bytes .fwd = [] ∧ fresh.bytes .rev = [] ∧ fresh.rx.state = .awaitStart
      ∧ fresh.tx.state = .init ∧ fresh.tx.built = false ∧ fresh.tx.payload.length ≤ fresh.cfg.maxPayload
      ∧ fresh.tx.payload.length + 5 ≤ 6 :=
  ⟨fresh_inv, by decide, by decide, by decide, by decide, by decide, by decide, by decide, by decide, by decide,
    by decide, by decide⟩
/-- Capacity 3 with 2 bytes held, and 2 with 2. -/
theorem test_meets_SendAppendsOrDrops :
    mid.cfg.env = .reliable ∧ (mid.bytes .fwd).length < (mid.withCfg { cfg8 with capacity := 3 }).cfg.capacity
      ∧ (mid.withCfg { cfg8 with capacity := 2 }).cfg.capacity ≤ (mid.bytes .fwd).length := by decide
theorem test_meets_ReceiveTakesTheOldestByte :
    mid.bytes .rev = [] ∧ mid.bytes .fwd = 0x20#8 :: [0x30#8] ∧ Queue.rev ≠ Queue.fwd
      ∧ (((lossy []).withDropNext .fwd true).chan.fifo .fwd).dropNext = true
      ∧ ((lossy []).withDropNext .fwd true).bytes .fwd = 0x20#8 :: [0x30#8] := by decide
theorem test_meets_LossyEnvironmentActsOnASend :
    (lossy [.corrupt 0x41#8]).cfg.env = .lossy ∧ ((lossy [.drop]).bytes .rev).length < (lossy [.drop]).cfg.capacity
      ∧ (((lossy [.pass]).withDropNext .rev true).chan.fifo .rev).dropNext = true
      ∧ ((lossy []).withCfg { cfg8 with env := .lossy, capacity := 2 }).cfg.env = .lossy
      ∧ ((lossy []).withCfg { cfg8 with env := .lossy, capacity := 2 }).cfg.capacity ≤ ((lossy []).bytes .fwd).length
      ∧ Queue.rev ≠ Queue.fwd ∧ (lossy [.drop]).env.sends = .drop :: [] ∧ (lossy []).env.sends = []
      ∧ (lossy []).env.endless = .steady .pass [] ∧ State.reset.env.sends = [] ∧ State.reset.env.endless = .free 0 := by
  decide
theorem test_meets_EnvironmentOperations :
    (lossy []).cfg.env = .lossy ∧ Queue.isIn .fwd (lossy []).cfg.topology = true ∧ Queue.isIn .rev mid.cfg.topology = true
      ∧ ((lossy []).bytes .fwd).length < ((lossy []).withCfg { cfg8 with env := .lossy, capacity := 3 }).cfg.capacity
      ∧ ((lossy []).withCfg { cfg8 with env := .lossy, capacity := 2 }).cfg.capacity ≤ ((lossy []).bytes .fwd).length
      ∧ Queue.isIn .q (lossy []).cfg.topology = false ∧ mid.cfg.env = .reliable ∧ (lossy []).env.inserts = []
      ∧ (lossy []).env.endless = .steady .pass [] ∧ State.reset.env.inserts = [] ∧ State.reset.env.endless = .free 0
      ∧ ({ sends := [], inserts := [[(.fwd, 0x41#8)]], endless := .free 7 } : Environment).inserts = [(.fwd, 0x41#8)] :: [] := by
  decide
/-! The whole machine. -/

theorem test_meets_EveryStepKeepsTheInvariant : mid.Inv ∧ ∃ t, step mid = .next t := ⟨mid_inv, ⟨_, rfl⟩⟩
theorem test_meets_NoStuckAndNoIllegalStateUnderTheInvariant :
    mid.Inv ∧ ∃ t, exec (.rxPayload 0x20#8) mid = .next t := ⟨mid_inv, ⟨_, rfl⟩⟩
theorem test_meets_TransitionsTakeEffectOnlyWhenSelected :
    encode (.rxPayload 0x20#8) = some 0x2120#16 ∧ (∀ c, Instr.rxPayload 0x20#8 ≠ .rxIdle c)
      ∧ (∃ t, exec (.rxPayload 0x20#8) mid = .next t) ∧ TxInv mid
      ∧ encode .txSend = some 0xA000#16 ∧ 0xA000#16 ≠ txTsel mid :=
  ⟨by decide, nofun, ⟨_, rfl⟩, mid_inv.tx, by decide, by decide⟩
theorem test_meets_FaultedIsNeverCleared :
    (∀ c, Instr.txStep ≠ .harnessCreate c) ∧ (∃ t, exec .txStep (mid.withFaulted true) = .next t)
      ∧ (mid.withFaulted true).faulted = true := ⟨nofun, ⟨_, rfl⟩, rfl⟩
theorem test_meets_HistoryOnlyGrows : ∃ t, step (fresh.withProgram [.op .txStep]) = .next t := ⟨_, rfl⟩
theorem test_meets_ConfigurationIsFixed :
    (∀ c, Instr.rxCreate ≠ .harnessCreate c) ∧ ∃ t, exec .rxCreate mid = .next t := ⟨nofun, ⟨_, rfl⟩⟩

end Sys2Proof.Tests
end

section
/-! SUPPORT. The checksum as a sum of its bytes: their order does not matter and equal bytes cancel (R140). -/

namespace Sys2Proof.Machine

/-- The fold does not depend on the order of the bytes (R140). -/
theorem checksum_perm {d e : List Byte} (h : d.Perm e) (len : Byte) : checksum len d = checksum len e :=
  h.foldl_eq' (fun x _ y _ z => by rw [BitVec.xor_assoc, BitVec.xor_comm x, ← BitVec.xor_assoc]) len

/-- Two equal bytes next to each other contribute nothing (R140). -/
theorem checksum_pair_cancels (len b : Byte) (d e : List Byte) :
    checksum len (d ++ [b, b] ++ e) = checksum len (d ++ e) := by
  have pair : checksum (checksum len d) [b, b] = checksum len d := by
    simp only [checksum, List.foldl_cons, List.foldl_nil, BitVec.xor_assoc, BitVec.xor_self, BitVec.xor_zero]
  rw [checksum_append, checksum_append, checksum_append, pair]

/-- Settles O8: the fold is commutative, so permuted bytes give the same checksum, and `b ^^^ b = 0`. -/
theorem checksumIsTheXorFold : Obligations.ChecksumIsTheXorFold := by
  unfold Obligations.ChecksumIsTheXorFold
  refine ⟨?fold, ?otherLength, ?order, ?pair, ?empty⟩
  case fold => intro len data s hlen; exact if_pos hlen
  case otherLength => intro len data s hlen; exact if_neg hlen
  case order => intro len d d' h; exact checksum_perm h len
  case pair => exact checksum_pair_cancels
  case empty => intro s; rfl

end Sys2Proof.Machine
end

section
/-! SUPPORT. HARNESS_CREATE: what it answers within the ranges of R8 to R13 and outside them (R240). -/

namespace Sys2Proof.Machine

@[simp] theorem Channel.fifo_empty (k : Queue) : Channel.empty.fifo k = .empty := by cases k <;> rfl

/-- Within the ranges HARNESS_CREATE makes the harness anew and keeps the model's inputs and observations (R240). -/
theorem execHarnessCreate_inRange {c : Cfg} (h : c.InRange) (s : State) :
    execHarnessCreate c s =
      .next { State.created c with env := s.env, program := s.program, history := s.history } := if_pos h

/-- Outside the ranges HARNESS_CREATE has no step (R240). -/
theorem execHarnessCreate_outOfRange {c : Cfg} (h : ¬ c.InRange) (s : State) :
    execHarnessCreate c s = .refused .badConfiguration := if_neg h

/-- Where HARNESS_CREATE goes on, and what it leaves (R240). -/
theorem execHarnessCreate_eq_next {c : Cfg} {s t : State} (h : execHarnessCreate c s = .next t) :
    c.InRange ∧ t = { State.created c with env := s.env, program := s.program, history := s.history } := by
  by_cases hc : c.InRange
  · rw [execHarnessCreate_inRange hc] at h
    cases h
    exact ⟨hc, rfl⟩
  · rw [execHarnessCreate_outOfRange hc] at h
    cases h

/-- Settles O44: the harness made is `State.created`, whose fields are the ones R240 and R301 list. -/
theorem harnessCreateMakesTheHarness : Obligations.HarnessCreateMakesTheHarness := by
  unfold Obligations.HarnessCreateMakesTheHarness
  intro c s
  refine ⟨fun h => ⟨_, execHarnessCreate_inRange h s, rfl, ?queues, rfl, rfl, rfl, rfl, rfl, rfl, rfl⟩,
    fun h => execHarnessCreate_outOfRange h s⟩
  case queues =>
    intro k
    simp [State.bytes, State.created, Fifo.empty]

end Sys2Proof.Machine
end

section
/-! SUPPORT. Partial correctness of an answer: what holds of its next state, if it has one. -/

namespace Sys2Proof.Machine

/-- The next state of the answer, if it is one, has the property; a fault or a refusal has it trivially. -/
def Ensures (P : State → Prop) (r : Res) : Prop := ∀ t, r = .next t → P t

variable {P : State → Prop}

theorem Ensures.next {s : State} (h : P s) : Ensures P (.next s) := fun _ ht => by cases ht; exact h

theorem Ensures.fault (e : Fault) : Ensures P (.fault e) := fun _ ht => by cases ht

theorem Ensures.refused (e : Refusal) : Ensures P (.refused e) := fun _ ht => by cases ht

theorem Ensures.ite {c : Prop} [Decidable c] {r r' : Res} (h : c → Ensures P r) (h' : ¬ c → Ensures P r') :
    Ensures P (if c then r else r') := by
  split
  · next hc => exact h hc
  · next hc => exact h' hc

/-- An operation that has a step only under its guard. -/
theorem Ensures.guard {c : Prop} [Decidable c] {r : Res} {e : Refusal} (h : c → Ensures P r) :
    Ensures P (if c then r else .refused e) := .ite h fun _ => .refused e

theorem Ensures.andThen {Q : State → Prop} {r : Res} {f : State → Res} (h : Ensures Q r)
    (hf : ∀ u, Q u → Ensures P (f u)) : Ensures P (andThen r f) := by
  intro t ht
  obtain ⟨u, hu, hut⟩ := andThen_eq_next ht
  exact hf u (h u hu) t hut

/-- A raise ends a round or a run with what its step left, so what the step ensured must be the claim itself. -/
theorem Ensures.unlessRaised {r : Res} {f : State → Res} (h : Ensures P r) (hf : ∀ u, P u → Ensures P (f u)) :
    Ensures P (unlessRaised r f) :=
  .andThen h fun u hu => .ite (fun _ => .next hu) fun _ => hf u hu

end Sys2Proof.Machine
end

section
/-! SUPPORT. The induction over what an operation runs, packaged once: a property that every elementary operation and every
harness action of a round keeps is kept by every operation but HARNESS_CREATE. -/

namespace Sys2Proof

/-- The operations that run no other one, HARNESS_CREATE left out: the 25 transitions, the codec, the contexts' making and
ending, and the environment's operations. -/
def Instr.isElementary : Instr → Bool
  | .rxStep _ | .txStep | .schedRound _ | .schedRun _ _ | .harnessCreate _ => false
  | _ => true

end Sys2Proof

namespace Sys2Proof.Machine

/-- What rxApply does is an elementary operation. -/
theorem rxApply_eq_next {i : Instr} {s t : State} (h : rxApply i s = .next t) :
    i.isElementary = true ∧ exec i s = .next t := by
  cases i with
  | rxIdle | rxStart | rxStray | rxLenOversize | rxLenZero | rxLen | rxPayload | rxPayloadLast | rxChkOk | rxChkBad
  | rxEndOk | rxEndBad | rxIllegal => exact ⟨rfl, h⟩
  | _ => cases h

/-- What txApply does is an elementary operation. -/
theorem txApply_eq_next {i : Instr} {s t : State} (h : txApply i s = .next t) :
    i.isElementary = true ∧ exec i s = .next t := by
  cases i with
  | txInit | txBuildExhausted | txBuildArm | txSend | txSendLast | txAwaitAck | txAwaitNack | txAwaitStray
  | txAwaitTimeout | txAwaitWait | txTerminal | txIllegal => exact ⟨rfl, h⟩
  | _ => cases h

/-- A property that every elementary operation keeps, and every action of the harness in a round or a run. -/
structure Kept (P : State → Prop) : Prop where
  elementary : ∀ {i : Instr} {s : State}, i.isElementary = true → P s → Ensures P (exec i s)
  ret : ∀ {s : State} (r : OpResult), P s → P (s.ret r)
  withIter : ∀ {s : State} (n : Nat), P s → P (s.withIter n)
  receive : ∀ {s : State} (k : Queue), P s → P (receive k s)
  insertionPoint : ∀ {s : State}, P s → P (insertionPoint s)
  tick : ∀ {s : State}, P s → P (tick s)
  endRun : ∀ {s : State}, P s → P (endRun s)

namespace Kept

variable {P : State → Prop}

theorem execRxStep (hP : Kept P) (input : Option Byte) {s : State} (h : P s) : Ensures P (execRxStep input s) := by
  unfold Machine.execRxStep
  split
  · intro t ht
    obtain ⟨hi, he⟩ := rxApply_eq_next ht
    exact hP.elementary hi h t he
  · exact .refused _
  · exact .fault _

theorem txTransition (hP : Kept P) {s : State} (h : P s) : Ensures P (txTransition s) := by
  unfold Machine.txTransition
  split
  · intro t ht
    obtain ⟨hi, he⟩ := txApply_eq_next ht
    exact hP.elementary hi h t he
  · exact .refused _
  · exact .fault _

theorem txChain (hP : Kept P) (n : Nat) {s : State} (h : P s) : Ensures P (txChain n s) := by
  induction n generalizing s with
  | zero => exact .next h
  | succ n ih => exact .andThen (hP.txTransition h) fun u hu => .ite (fun _ => ih hu) fun _ => .next hu

theorem rxTurn (hP : Kept P) (en : Bool) {s : State} (h : P s) : Ensures P (rxTurn en s) :=
  .ite (fun _ => hP.execRxStep _ (hP.insertionPoint (hP.receive _ h))) fun _ => .next (hP.ret _ h)

theorem txTurn (hP : Kept P) {s : State} (h : P s) : Ensures P (txTurn s) :=
  .ite (fun _ => hP.txChain 3 h) fun _ => .next (hP.ret _ h)

theorem round (hP : Kept P) (en : Bool) {s : State} (h : P s) : Ensures P (round en s) :=
  .unlessRaised (hP.rxTurn en (hP.insertionPoint h)) fun _ h1 =>
    .unlessRaised (hP.txTurn (hP.insertionPoint h1)) fun _ h2 =>
      .next (hP.ret _ (hP.tick (hP.insertionPoint h2)))

theorem runLoop (hP : Kept P) (n : Nat) (en : List Bool) {s : State} (h : P s) : Ensures P (runLoop n en s) := by
  induction n generalizing en s with
  | zero => exact .next (hP.ret _ h)
  | succ n ih =>
    exact .ite (fun _ => .next (hP.ret _ h)) fun _ =>
      .unlessRaised (hP.round _ h) fun u hu => ih en.tail (hP.withIter (u.iter + 1) hu)

theorem execSchedRun (hP : Kept P) (n : Nat) (en : List Bool) {s : State} (h : P s) : Ensures P (execSchedRun n en s) :=
  .guard fun _ => .unlessRaised (hP.runLoop n en (hP.withIter 0 h)) fun _ hu => .next (hP.endRun hu)

/-- Every operation but HARNESS_CREATE keeps the property. -/
theorem exec (hP : Kept P) {i : Instr} (hi : ∀ c, i ≠ .harnessCreate c) {s : State} (h : P s) :
    Ensures P (exec i s) := by
  cases i with
  | rxStep input => exact hP.execRxStep input h
  | txStep => exact hP.txChain 3 h
  | schedRound en => exact hP.round en h
  | schedRun n en => exact hP.execSchedRun n en h
  | harnessCreate c => exact absurd rfl (hi c)
  | _ => exact hP.elementary rfl h

end Kept

end Sys2Proof.Machine
end

section
/-! SUPPORT. What never goes back in the life of a harness: the configuration stays (R54), `faulted` is not cleared (R21,
R51), and events are only appended (R20). One rule for each operation over the state, then every operation but
HARNESS_CREATE. -/

namespace Sys2Proof.Machine

/-- `t` is a later state of the harness that is in state `s`. -/
structure Evolves (s t : State) : Prop where
  cfg : t.cfg = s.cfg
  faulted : s.faulted = true → t.faulted = true
  history : s.history <+: t.history

theorem Evolves.refl (s : State) : Evolves s s := ⟨rfl, id, List.prefix_rfl⟩

/-- Evolves reads only the configuration, `faulted` and the event history. -/
theorem evolves_congr {s t t' : State} (hc : t'.cfg = t.cfg) (hf : t'.faulted = t.faulted)
    (hh : t'.history = t.history) : Evolves s t' ↔ Evolves s t := by
  constructor <;> rintro ⟨c, f, p⟩ <;> constructor <;> simp_all

section updates
variable {s t : State}
@[simp] theorem evolves_withRx (r : ReceiverContext) : Evolves s (t.withRx r) ↔ Evolves s t := evolves_congr rfl rfl rfl
@[simp] theorem evolves_withTx (x : TransmitterContext) : Evolves s (t.withTx x) ↔ Evolves s t :=
  evolves_congr rfl rfl rfl
@[simp] theorem evolves_withTxLive (b : Bool) : Evolves s (t.withTxLive b) ↔ Evolves s t := evolves_congr rfl rfl rfl
@[simp] theorem evolves_withIter (n : Nat) : Evolves s (t.withIter n) ↔ Evolves s t := evolves_congr rfl rfl rfl
@[simp] theorem evolves_withRunStatus (r : RunStatus) : Evolves s (t.withRunStatus r) ↔ Evolves s t :=
  evolves_congr rfl rfl rfl
@[simp] theorem evolves_withBytes (k : Queue) (bs : List Byte) : Evolves s (t.withBytes k bs) ↔ Evolves s t :=
  evolves_congr rfl rfl rfl
@[simp] theorem evolves_withDropNext (k : Queue) (d : Bool) : Evolves s (t.withDropNext k d) ↔ Evolves s t :=
  evolves_congr rfl rfl rfl
@[simp] theorem evolves_ret (r : OpResult) : Evolves s (t.ret r) ↔ Evolves s t := evolves_congr rfl rfl rfl
@[simp] theorem evolves_receive (k : Queue) : Evolves s (receive k t) ↔ Evolves s t := evolves_congr rfl rfl rfl
@[simp] theorem evolves_tick : Evolves s (tick t) ↔ Evolves s t := evolves_congr rfl rfl rfl
@[simp] theorem evolves_insertionPoint : Evolves s (insertionPoint t) ↔ Evolves s t :=
  evolves_congr (by simp) (by simp) (by simp)
end updates

namespace Evolves

variable {s t : State}

@[simp] theorem withFaulted (h : Evolves s t) : Evolves s (t.withFaulted true) := ⟨h.cfg, fun _ => rfl, h.history⟩

@[simp] theorem emit (h : Evolves s t) (e : Event) : Evolves s (t.emit e) :=
  ⟨h.cfg, h.faulted, h.history.trans (List.prefix_append _ _)⟩

@[simp] theorem send (h : Evolves s t) (k : Queue) (b : Byte) : Evolves s (send k b t) :=
  ⟨by simpa using h.cfg, by simpa using h.faulted,
    h.history.trans (by rw [send_history]; exact List.prefix_append _ _)⟩

@[simp] theorem reject (h : Evolves s t) (reason : RejectReason) : Evolves s (reject reason t) := by
  simp [Machine.reject, h]

@[simp] theorem raiseFault (h : Evolves s t) (reason : FaultReason) : Evolves s (raiseFault reason t) := by
  simp [Machine.raiseFault, h]

theorem deliver (h : Evolves s t) : Evolves s (deliver t) :=
  (evolves_ret _).mpr ((evolves_withRx _).mpr (((((evolves_withRx _).mpr h).send _ _).emit _).emit _))

theorem endRun (h : Evolves s t) : Evolves s (endRun t) := by
  unfold Machine.endRun
  split <;> simp [h]

theorem storePayloadByte (h : Evolves s t) (st : RxState) (b : Byte) :
    Ensures (Evolves s) (storePayloadByte st b t) :=
  .ite (fun _ => .next (by simpa using h)) fun _ => .fault _

theorem firstEntry (h : Evolves s t) : Ensures (Evolves s) (firstEntry t) := by
  intro u hu
  obtain ⟨-, -, -, hu, -⟩ := firstEntry_eq_next hu
  rw [hu]
  exact (evolves_withTx u.tx).mpr h

theorem sendFrameByte (h : Evolves s t) : Ensures (Evolves s) (sendFrameByte t) := by
  intro u hu
  obtain ⟨-, rfl⟩ := sendFrameByte_eq_next hu
  simp [h]

theorem environmentAct (h : Evolves s t) {k : Queue} {act : Res} (hact : Ensures (Evolves s) act) :
    Ensures (Evolves s) (environmentAct k t act) := by
  intro u hu
  obtain ⟨-, ⟨-, rfl⟩ | ⟨-, hu⟩⟩ := environmentAct_eq_next hu
  · simpa using h
  · exact hact u hu

/-- Every elementary operation: most are one update of the registers under a guard; the others go through the shared
operation they call. -/
theorem elementary {i : Instr} (hi : i.isElementary = true) (h : Evolves s t) : Ensures (Evolves s) (exec i t) := by
  cases i with
  | rxStart | rxStray | rxLenOversize | rxLenZero | rxLen | rxChkOk | rxChkBad | rxEndBad | rxIllegal
  | txInit | txAwaitTimeout | txAwaitWait | txTerminal | txIllegal | txDestroy | codecChecksum | codecValidate =>
    exact .guard fun _ => .next (by simp [h])
  | rxIdle | rxCreate | codecDecode => exact .next (by simpa using h)
  | txAwaitAck | txAwaitNack | txAwaitStray => exact .guard fun _ => .next (by simp [takeResponse, h])
  | rxPayload | rxPayloadLast => exact .guard fun _ => h.storePayloadByte _ _
  | rxEndOk => exact .guard fun _ => .ite (fun _ => .next h.deliver) fun _ => .fault _
  | txBuildExhausted | txBuildArm =>
    exact .guard fun _ => .andThen h.firstEntry fun u hu => .guard fun _ => .next (by simp [hu])
  | txSend | txSendLast => exact .guard fun _ => .andThen h.sendFrameByte fun u hu => .next (by simpa using hu)
  | codecEncode =>
    simp only [exec, execCodecEncode]
    split
    · exact .next (by simpa using h)
    · exact .refused _
  | txStart => exact .ite (fun _ => .refused _) fun _ => .ite (fun _ => .refused _) fun _ => .next (by simpa using h)
  | envInject => exact h.environmentAct (.guard fun _ => .next (by simpa using h))
  | envDropNext => exact h.environmentAct (.next (by simpa using h))
  | rxStep | txStep | schedRound | schedRun | harnessCreate => cases hi

end Evolves

theorem kept_evolves (s : State) : Kept (Evolves s) where
  elementary hi h := h.elementary hi
  ret r h := (evolves_ret r).mpr h
  withIter n h := (evolves_withIter n).mpr h
  receive k h := (evolves_receive k).mpr h
  insertionPoint h := evolves_insertionPoint.mpr h
  tick h := evolves_tick.mpr h
  endRun h := h.endRun

/-- Every operation but HARNESS_CREATE leads to a later state of the same harness. -/
theorem exec_evolves {i : Instr} {s t : State} (hi : ∀ c, i ≠ .harnessCreate c) (h : exec i s = .next t) :
    Evolves s t :=
  (kept_evolves s).exec hi (.refl s) t h

/-- Every operation, HARNESS_CREATE included, only appends to the event history (R20). -/
theorem exec_history_prefix {i : Instr} {s t : State} (h : exec i s = .next t) : s.history <+: t.history := by
  by_cases hi : ∃ c, i = .harnessCreate c
  · obtain ⟨c, rfl⟩ := hi
    obtain ⟨-, rfl⟩ := execHarnessCreate_eq_next h
    exact List.prefix_rfl
  · exact (exec_evolves (fun c hc => hi ⟨c, hc⟩) h).history

/-- Where a step goes on: an empty program idles, else the next entry's operation runs on what is left of the program. -/
theorem step_eq_next {s t : State} (h : step s = .next t) :
    s.program = [] ∧ t = s ∨
      ∃ slot rest i, s.program = slot :: rest ∧ fetch slot s = .instr i ∧ exec i (s.withProgram rest) = .next t := by
  unfold step at h
  split at h
  · next hp => cases h; exact .inl ⟨hp, rfl⟩
  · next slot rest hp =>
    split at h
    · next i hf => exact .inr ⟨slot, rest, i, hp, hf, h⟩
    · cases h
    · cases h

/-- Settles O58: a later state of the same harness has `faulted` set if the earlier one has. -/
theorem faultedIsNeverCleared : Obligations.FaultedIsNeverCleared := by
  unfold Obligations.FaultedIsNeverCleared
  intro i s t hi h
  exact (exec_evolves hi h).faulted

/-- Settles O59: a step idles, or runs one operation, whose history begins with the one before. -/
theorem historyOnlyGrows : Obligations.HistoryOnlyGrows := by
  unfold Obligations.HistoryOnlyGrows
  intro s t h
  obtain ⟨-, rfl⟩ | ⟨slot, rest, i, -, -, h⟩ := step_eq_next h
  · exact ⟨[], by simp⟩
  · obtain ⟨es, hes⟩ := exec_history_prefix h
    exact ⟨es, hes.symm⟩

end Sys2Proof.Machine
end

section
/-! SUPPORT. The configuration (R54), and the transitions that move one byte: a DATA byte into rx_buf (R168, R169) and a
frame byte into Q_TX_OUT (R207, R208). -/

namespace Sys2Proof.Machine

/-- Settles O60: a later state of the same harness has its configuration. -/
theorem configurationIsFixed : Obligations.ConfigurationIsFixed := by
  unfold Obligations.ConfigurationIsFixed
  intro i s t hi h
  exact (exec_evolves hi h).cfg

/-- At an index of rx_buf a DATA byte is stored (R168, R169). -/
theorem storePayloadByte_inRange {s : State} (h : s.rx.wcur.toNat < s.cfg.maxPayload) (st : RxState) (b : Byte) :
    storePayloadByte st b s = .next { s with
      rx := { s.rx with buf := Buffer.write s.rx.wcur.toNat b s.rx.buf, chk := s.rx.chk ^^^ b
                        wcur := s.rx.wcur + 1#8, state := st }
      result := .rx .none } := if_pos h

/-- Past the array the model stops. -/
theorem storePayloadByte_outOfRange {s : State} (h : s.cfg.maxPayload ≤ s.rx.wcur.toNat) (st : RxState) (b : Byte) :
    storePayloadByte st b s = .fault .bufferRange := if_neg (Nat.not_lt.mpr h)

/-- Settles O18: both rows store by `storePayloadByte`, whose write is read back at rx_wcur and nowhere else. -/
theorem payloadByteSteps : Obligations.PayloadByteSteps := by
  unfold Obligations.PayloadByteSteps
  intro b s hst
  have exec_more : s.rx.wcur + 1#8 < s.rx.len → exec (.rxPayload b) s = storePayloadByte .readPayload b s :=
    fun h => if_pos ⟨hst, h⟩
  have exec_last : s.rx.wcur + 1#8 = s.rx.len → exec (.rxPayloadLast b) s = storePayloadByte .readChecksum b s :=
    fun h => if_pos ⟨hst, h⟩
  have reads := fun i (hi : i ≠ s.rx.wcur.toNat) => Buffer.read_write_other hi b s.rx.buf
  refine ⟨fun hr h => ⟨_, ?more, Buffer.read_write_same _ _ _, reads⟩,
    fun hr h => ⟨_, ?last, Buffer.read_write_same _ _ _, reads⟩,
    fun hr => ⟨fun h => ?moreStops, fun h => ?lastStops⟩⟩
  case more => rw [exec_more h, ← hst, storePayloadByte_inRange hr]
  case last => rw [exec_last h, storePayloadByte_inRange hr]
  case moreStops => rw [exec_more h, storePayloadByte_outOfRange hr]
  case lastStops => rw [exec_last h, storePayloadByte_outOfRange hr]

/-- At a written index of tx_frame its byte is sent (R207, R208). -/
theorem sendFrameByte_written {s : State} {b : Byte} (hb : Buffer.read s.tx.cursor.toNat s.tx.frame = some b)
    (hc : s.tx.cursor.toNat < 259) :
    sendFrameByte s = .next { s with
      tx := { s.tx with cursor := s.tx.cursor + 1#9 }
      chan := (send s.cfg.topology.frames b s).chan
      env := (send s.cfg.topology.frames b s).env
      history := (send s.cfg.topology.frames b s).history ++ [.txByte b] } := by
  have hbyte : frameByte s.tx.frame s.tx.cursor.toNat = b := by simp [frameByte, hb]
  rw [sendFrameByte, if_pos (show s.tx.cursor.toNat < maxFrame from hc), hbyte]
  refine congrArg Host.Outcome.next ?_
  apply State.eq_of_fields <;> simp

/-- Past the array the model stops. -/
theorem sendFrameByte_outOfRange {s : State} (h : 259 ≤ s.tx.cursor.toNat) : sendFrameByte s = .fault .bufferRange :=
  if_neg (Nat.not_lt.mpr h)

/-- Settles O32: both rows send by `sendFrameByte`. -/
theorem sendSteps : Obligations.SendSteps := by
  unfold Obligations.SendSteps
  have exec_more {s : State} (hst : s.tx.state = .sending) (h : s.tx.cursor + 1#9 < s.tx.flen) :
      exec .txSend s = andThen (sendFrameByte s) fun s1 => .next (s1.ret (.tx .running)) := if_pos ⟨hst, h⟩
  have exec_last {s : State} (hst : s.tx.state = .sending) (h : s.tx.cursor + 1#9 = s.tx.flen) :
      exec .txSendLast s = andThen (sendFrameByte s) fun s1 =>
        .next ((s1.withTx { s1.tx with waitStart := s1.now, state := .awaitResponse }).ret (.tx .running)) :=
    if_pos ⟨hst, h⟩
  refine ⟨fun s b hst hb => ⟨fun hc h => ?more, fun hc h => ?last⟩,
    fun s hst hc => ⟨fun h => ?moreStops, fun h => ?lastStops⟩⟩
  case more => rw [exec_more hst h, sendFrameByte_written hb hc]; rfl
  case last => rw [exec_last hst h, sendFrameByte_written hb hc]; rfl
  case moreStops => rw [exec_more hst h, sendFrameByte_outOfRange hc]; rfl
  case lastStops => rw [exec_last hst h, sendFrameByte_outOfRange hc]; rfl

end Sys2Proof.Machine
end

section
/-! SUPPORT. The environment's own actions: INJECT, DROPNEXT and the insertion points of a round (R82, R124, R243). -/

namespace Sys2Proof.Machine

theorem State.withBytes_fifo_other (s : State) {k j : Queue} (h : j ≠ k) (bs : List Byte) :
    (s.withBytes k bs).chan.fifo j = s.chan.fifo j := Channel.fifo_withFifo_other _ _ h

@[simp] theorem State.withBytes_dropNext (s : State) (k j : Queue) (bs : List Byte) :
    ((s.withBytes k bs).chan.fifo j).dropNext = (s.chan.fifo j).dropNext := by
  by_cases h : j = k
  · subst h; simp [State.withBytes]
  · rw [s.withBytes_fifo_other h]

/-- What an insertion leaves in a queue: its byte at the tail, if it names the queue and there is room (R82 (c)). -/
theorem insertByte_bytes (s : State) (i : Queue × Byte) (k : Queue) : (insertByte s i).bytes k = s.bytes k ++
    (if i.1 = k ∧ k.isIn s.cfg.topology ∧ (s.bytes k).length < s.cfg.capacity then [i.2] else []) := by
  obtain ⟨j, b⟩ := i
  unfold insertByte
  by_cases hj : j = k
  · subst hj
    split <;> simp_all
  · split <;> simp [hj, s.bytes_withBytes_other (Ne.symm hj)]

theorem insertByte_frame (s : State) (i : Queue × Byte) :
    insertByte s i = { s with chan := (insertByte s i).chan } := by
  rcases insertByte_cases s i with h | ⟨-, -, h⟩
  · rw [h]
  · rw [h]; rfl

theorem insertByte_dropNext (s : State) (i : Queue × Byte) (k : Queue) :
    ((insertByte s i).chan.fifo k).dropNext = (s.chan.fifo k).dropNext := by
  rcases insertByte_cases s i with h | ⟨-, -, h⟩ <;> simp [h]

/-- A list of insertions changes the queues alone, and no DROPNEXT in them. -/
theorem insertBytes_frame (l : List (Queue × Byte)) (s : State) :
    l.foldl insertByte s = { s with chan := (l.foldl insertByte s).chan } ∧
      ∀ k, ((l.foldl insertByte s).chan.fifo k).dropNext = (s.chan.fifo k).dropNext := by
  induction l generalizing s with
  | nil => exact ⟨rfl, fun _ => rfl⟩
  | cons i l ih =>
    obtain ⟨hs, hd⟩ := ih (insertByte s i)
    refine ⟨?_, fun k => (hd k).trans (insertByte_dropNext s i k)⟩
    rw [List.foldl_cons, hs, insertByte_frame s i]

/-- A list of insertions appends to a queue of the topology the bytes that name it, in order, as far as there is room
(R82 (c)). -/
theorem insertBytes_bytes (l : List (Queue × Byte)) (s : State) (k : Queue) :
    (l.foldl insertByte s).bytes k = s.bytes k ++
      (if k.isIn s.cfg.topology then
        ((l.filter fun i => i.1 = k).map Prod.snd).take (s.cfg.capacity - (s.bytes k).length) else []) := by
  induction l generalizing s with
  | nil => simp
  | cons i l ih =>
    have hcfg : (insertByte s i).cfg = s.cfg := by rw [insertByte_frame]
    rw [List.foldl_cons, ih, hcfg, insertByte_bytes]
    by_cases hk : k.isIn s.cfg.topology = true
    · by_cases hi : i.1 = k
      · by_cases hroom : (s.bytes k).length < s.cfg.capacity
        · have hsucc : s.cfg.capacity - (s.bytes k).length = s.cfg.capacity - ((s.bytes k).length + 1) + 1 := by omega
          simp [hk, hi, hroom, hsucc]
        · have hzero : s.cfg.capacity - (s.bytes k).length = 0 := by omega
          simp [hk, hi, hroom, hzero]
      · simp [hk, hi]
    · simp [hk]

/-- Under LOSSY an insertion point inserts its draw (R82 (c)). -/
theorem insertionPoint_lossy {s : State} (h : s.cfg.env = .lossy) :
    insertionPoint s = s.env.nextInsert.foldl insertByte (s.withEnv s.env.afterInsert) := by
  simp [insertionPoint, h]

/-- Settles O53: INJECT and DROPNEXT are `environmentAct` of one update, and an insertion point is a list of
insertions. -/
theorem environmentOperations : Obligations.EnvironmentOperations := by
  unfold Obligations.EnvironmentOperations
  refine ⟨fun k b s hl => ⟨fun hk hroom => ?inject, fun hk => ?dropNext, fun hk hfull => ?full⟩,
    fun k b s hr hk => ⟨environmentAct_reliable hr hk, environmentAct_reliable hr hk⟩,
    fun k b s hk => ⟨environmentAct_absent hk, environmentAct_absent hk⟩,
    fun s => insertionPoint_reliable, fun s hl => ⟨fun k => ?inserted, ?rest, ?listed, ?steady, ?free⟩⟩
  case inject =>
    refine ⟨(s.withBytes k (s.bytes k ++ [b])).ret .nothing, ?_, ?_, ?_, fun j hj => ?_, rfl⟩
    · exact (environmentAct_lossy hl hk).trans (if_pos hroom)
    · simp
    · simp
    · exact s.withBytes_fifo_other hj _
  case dropNext =>
    refine ⟨(s.withDropNext k true).ret .nothing, environmentAct_lossy hl hk, ?_, ?_, fun j hj => ?_, rfl⟩
    · simp [State.withDropNext]
    · simp
    · exact Channel.fifo_withFifo_other _ _ hj
  case full => exact (environmentAct_lossy hl hk).trans (if_neg (Nat.not_lt.mpr hfull))
  case inserted =>
    rw [insertionPoint_lossy hl]
    exact ⟨insertBytes_bytes _ _ k, (insertBytes_frame _ _).2 k⟩
  case rest =>
    rw [insertionPoint_lossy hl]
    exact (insertBytes_frame _ _).1
  case listed => intro l rest h; simp [Environment.nextInsert, Environment.afterInsert, h]
  case steady => intro act l h he; simp [Environment.nextInsert, Environment.afterInsert, h, he]
  case free => intro n h he; simp [Environment.nextInsert, Environment.afterInsert, h, he]

end Sys2Proof.Machine
end

section
/-! SUPPORT. The invariant of the whole machine under one update at a time: what its three parts read, the registers of
each engine after a transition, and the queues. -/

namespace Sys2Proof

@[simp] theorem Topology.frames_isIn (t : Topology) : t.frames.isIn t = true := by cases t <;> rfl

@[simp] theorem Topology.responses_isIn (t : Topology) : t.responses.isIn t = true := by cases t <;> rfl

end Sys2Proof

namespace Sys2Proof.Machine

/-! ### What the parts of the invariant read -/

section reads
variable {s t : State}

theorem RxInv.congr (h : RxInv s) (hrx : t.rx = s.rx) (hcfg : t.cfg = s.cfg) : RxInv t := by
  cases s; cases t; cases hrx; cases hcfg
  exact ⟨h.legal, h.buf, h.len, h.idle, h.rejected, h.delivered, h.cursor, h.stored, h.written, h.chk, h.payload⟩

theorem TxInv.congr (h : TxInv s) (htx : t.tx = s.tx) (hcfg : t.cfg = s.cfg) : TxInv t := by
  cases s; cases t; cases htx; cases hcfg
  exact ⟨h.legal, h.plen, h.frame, h.unbuilt, h.cursor, h.sending, h.awaiting, h.attempts, h.wait, h.outcome⟩

theorem HarnessInv.congr (h : HarnessInv s) (hcfg : t.cfg = s.cfg) (hnow : t.now = s.now)
    (hbytes : ∀ k, t.bytes k = s.bytes k) : HarnessInv t where
  range := hcfg ▸ h.range
  clock := by rw [hcfg, hnow]; exact h.clock
  capacity k := by rw [hcfg, hbytes]; exact h.capacity k
  topology k := by rw [hcfg, hbytes]; exact h.topology k

theorem inv_congr (hcfg : t.cfg = s.cfg) (hrx : t.rx = s.rx) (htx : t.tx = s.tx) (hnow : t.now = s.now)
    (hbytes : ∀ k, t.bytes k = s.bytes k) : t.Inv ↔ s.Inv :=
  ⟨fun h => ⟨h.rx.congr hrx.symm hcfg.symm, h.tx.congr htx.symm hcfg.symm,
      h.harness.congr hcfg.symm hnow.symm fun k => (hbytes k).symm⟩,
    fun h => ⟨h.rx.congr hrx hcfg, h.tx.congr htx hcfg, h.harness.congr hcfg hnow hbytes⟩⟩

end reads

section unread
variable (s : State)
@[simp] theorem inv_withTxLive (b : Bool) : (s.withTxLive b).Inv ↔ s.Inv := inv_congr rfl rfl rfl rfl fun _ => rfl
@[simp] theorem inv_withIter (n : Nat) : (s.withIter n).Inv ↔ s.Inv := inv_congr rfl rfl rfl rfl fun _ => rfl
@[simp] theorem inv_withRunStatus (r : RunStatus) : (s.withRunStatus r).Inv ↔ s.Inv :=
  inv_congr rfl rfl rfl rfl fun _ => rfl
@[simp] theorem inv_withFaulted (b : Bool) : (s.withFaulted b).Inv ↔ s.Inv := inv_congr rfl rfl rfl rfl fun _ => rfl
@[simp] theorem inv_withProgram (p : List Slot) : (s.withProgram p).Inv ↔ s.Inv :=
  inv_congr rfl rfl rfl rfl fun _ => rfl
@[simp] theorem inv_withDropNext (k : Queue) (d : Bool) : (s.withDropNext k d).Inv ↔ s.Inv :=
  inv_congr rfl rfl rfl rfl fun j => s.bytes_withDropNext k j d
@[simp] theorem inv_emit (e : Event) : (s.emit e).Inv ↔ s.Inv := inv_congr rfl rfl rfl rfl fun _ => rfl
@[simp] theorem inv_ret (r : OpResult) : (s.ret r).Inv ↔ s.Inv := inv_congr rfl rfl rfl rfl fun _ => rfl
@[simp] theorem inv_raiseFault (reason : FaultReason) : (raiseFault reason s).Inv ↔ s.Inv :=
  inv_congr rfl rfl rfl rfl fun _ => rfl
end unread

namespace State.Inv

variable {s t u : State}

/-- A receiver made from one state's may be put into another that has its configuration. -/
theorem withRx {r : ReceiverContext} (h : u.Inv) (hr : RxInv (s.withRx r)) (hcfg : u.cfg = s.cfg := by simp) :
    (u.withRx r).Inv where
  rx := hr.congr rfl hcfg
  tx := h.tx.congr rfl rfl
  harness := h.harness.congr rfl rfl fun _ => rfl

/-- A transmitter made from one state's may be put into another that has its configuration. -/
theorem withTx {x : TransmitterContext} (h : u.Inv) (hx : TxInv (s.withTx x)) (hcfg : u.cfg = s.cfg := by simp) :
    (u.withTx x).Inv where
  rx := h.rx.congr rfl rfl
  tx := hx.congr rfl hcfg
  harness := h.harness.congr rfl rfl fun _ => rfl

/-- The engines' parts do not read the Clock and the queues. -/
theorem of_harness (h : s.Inv) (ht : HarnessInv t) (hcfg : t.cfg = s.cfg := by simp) (hrx : t.rx = s.rx := by simp)
    (htx : t.tx = s.tx := by simp) : t.Inv where
  rx := h.rx.congr hrx hcfg
  tx := h.tx.congr htx hcfg
  harness := ht

end State.Inv

/-! ### The Clock and the queues -/

namespace HarnessInv

variable {s : State}

theorem withBytes (h : HarnessInv s) {k : Queue} {bs : List Byte} (hlen : bs.length ≤ s.cfg.capacity)
    (habsent : k.isIn s.cfg.topology = false → bs = []) : HarnessInv (s.withBytes k bs) where
  range := h.range
  clock := h.clock
  capacity j := by
    by_cases hj : j = k
    · subst hj; simpa using hlen
    · simpa [s.bytes_withBytes_other hj] using h.capacity j
  topology j := by
    by_cases hj : j = k
    · subst hj; simpa using habsent
    · simpa [s.bytes_withBytes_other hj] using h.topology j

/-- One byte more in a queue of the topology that has room (R50, R77). -/
theorem append (h : HarnessInv s) {k : Queue} (hk : k.isIn s.cfg.topology = true)
    (hroom : (s.bytes k).length < s.cfg.capacity) (b : Byte) : HarnessInv (s.withBytes k (s.bytes k ++ [b])) :=
  h.withBytes (by rw [List.length_append]; exact hroom) (by simp [hk])

theorem receive (h : HarnessInv s) (k : Queue) : HarnessInv (receive k s) :=
  h.withBytes (by have := h.capacity k; simp; omega) fun hk => by simp [h.topology k hk]

theorem afterSend (h : HarnessInv s) (k : Queue) : HarnessInv (s.afterSend k) :=
  h.congr (by simp) (by simp) (by simp)

theorem send (h : HarnessInv s) {k : Queue} (hk : k.isIn s.cfg.topology = true) (b : Byte) :
    HarnessInv (send k b s) := by
  rcases send_cases k b s with ⟨-, he⟩ | ⟨-, -, he⟩ | ⟨c, hroom, -, he⟩ <;> rw [he]
  · exact (h.afterSend k).congr rfl rfl fun _ => rfl
  · exact h.afterSend k
  · simpa using (h.afterSend k).append (by simpa using hk) (by simpa using hroom) c

theorem insertByte (h : HarnessInv s) (i : Queue × Byte) : HarnessInv (insertByte s i) := by
  rcases insertByte_cases s i with he | ⟨hk, hroom, he⟩ <;> rw [he]
  · exact h
  · exact h.append hk hroom i.2

theorem insertionPoint (h : HarnessInv s) : HarnessInv (insertionPoint s) :=
  insertionPoint_induct (fun _ _ hu => hu.congr rfl rfl fun _ => rfl) (fun _ i hu => hu.insertByte i) h

theorem tick (h : HarnessInv s) : HarnessInv (tick s) where
  range := h.range
  clock := tick_lt s
  capacity := h.capacity
  topology := h.topology

end HarnessInv

/-! ### The ReceiverContext after a transition -/

namespace RxInv

variable {s : State}

theorem initial (s : State) : RxInv (s.withRx .initial) where
  legal := rfl
  buf := rfl
  len := Nat.zero_le _
  idle _ := ⟨rfl, rfl⟩
  rejected := nofun
  delivered := nofun
  cursor := nofun
  stored := nofun
  written := nofun
  chk := nofun
  payload := nofun

/-- While a frame is in progress there is no outcome yet (R36). -/
theorem pending (h : RxInv s) (hst : s.rx.state ≠ .awaitStart) : s.rx.outcome = .pending := by
  cases ho : s.rx.outcome with
  | pending => rfl
  | success => exact absurd (h.delivered ho) hst
  | error => exact absurd (h.rejected ho).1 hst

/-- RX_START (R163). -/
theorem started (h : RxInv s) :
    RxInv (s.withRx { s.rx with state := .readLength, chk := 0#8, wcur := 0#8, outcome := .pending }) where
  legal := rfl
  buf := h.buf
  len := h.len
  idle := nofun
  rejected := nofun
  delivered := nofun
  cursor := nofun
  stored := nofun
  written := nofun
  chk := nofun
  payload := nofun

/-- The error entry (R175). -/
theorem rejection (h : RxInv s) : RxInv (s.withRx
    { s.rx with state := .awaitStart, len := 0#8, chk := 0#8, wcur := 0#8, outcome := .error }) where
  legal := rfl
  buf := h.buf
  len := Nat.zero_le _
  idle _ := ⟨rfl, rfl⟩
  rejected _ := ⟨rfl, rfl⟩
  delivered := nofun
  cursor := nofun
  stored := nofun
  written := nofun
  chk := nofun
  payload := nofun

/-- RX_LEN_ZERO (R166). -/
theorem lengthZero (h : RxInv s) (hst : s.rx.state = .readLength) :
    RxInv (s.withRx { s.rx with len := 0#8, chk := 0#8, wcur := 0#8, state := .readChecksum }) where
  legal := rfl
  buf := h.buf
  len := Nat.zero_le _
  idle := nofun
  rejected ho := by simp [h.pending (by simp [hst])] at ho
  delivered ho := by simp [h.pending (by simp [hst])] at ho
  cursor := nofun
  stored _ := rfl
  written := nofun
  chk _ := rfl
  payload := nofun

/-- RX_LEN (R167). -/
theorem length (h : RxInv s) (hst : s.rx.state = .readLength) {b : Byte} (hpos : 1 ≤ b.toNat)
    (hmax : b.toNat ≤ s.cfg.maxPayload) :
    RxInv (s.withRx { s.rx with len := b, chk := b, wcur := 0#8, state := .readPayload }) where
  legal := rfl
  buf := h.buf
  len := hmax
  idle := nofun
  rejected ho := by simp [h.pending (by simp [hst])] at ho
  delivered ho := by simp [h.pending (by simp [hst])] at ho
  cursor _ := BitVec.lt_def.mpr hpos
  stored := nofun
  written := nofun
  chk _ := rfl
  payload ho := by simp [h.pending (by simp [hst])] at ho

/-- RX_PAYLOAD and RX_PAYLOAD_LAST (R168, R169). -/
theorem byteStored (h : RxInv s) (hst : s.rx.state = .readPayload) (b : Byte) {st : RxState}
    (hnext : st = .readPayload ∧ s.rx.wcur + 1#8 < s.rx.len ∨ st = .readChecksum ∧ s.rx.wcur + 1#8 = s.rx.len) :
    RxInv (s.withRx { s.rx with buf := Buffer.write s.rx.wcur.toNat b s.rx.buf, chk := s.rx.chk ^^^ b
                                wcur := s.rx.wcur + 1#8, state := st }) := by
  have hp : s.rx.outcome = .pending := h.pending (by simp [hst])
  have hframe : RxState.holdsFrame s.rx.state = true := by simp [hst, RxState.holdsFrame]
  have hsucc : (s.rx.wcur + 1#8).toNat = s.rx.wcur.toNat + 1 := by have := h.cursor hst; bv_omega
  have hst' : st = .readPayload ∨ st = .readChecksum := hnext.imp And.left And.left
  exact {
    legal := by rcases hst' with rfl | rfl <;> rfl
    buf := Buffer.write_wf h.buf _ _
    len := h.len
    idle := by rcases hst' with rfl | rfl <;> nofun
    rejected := fun ho => by simp [hp] at ho
    delivered := fun ho => by simp [hp] at ho
    cursor := fun hs => by
      rcases hnext with ⟨-, hlt⟩ | ⟨rfl, -⟩
      · exact hlt
      · cases hs
    stored := fun hs => by
      rcases hnext with ⟨rfl, -⟩ | ⟨-, heq⟩
      · simp at hs
      · exact heq
    written := fun _ i hi => by
      by_cases hw : i = s.rx.wcur.toNat
      · simp [hw]
      · have hlt : i < s.rx.wcur.toNat := by simp [hsucc] at hi; omega
        simpa [Buffer.read_write_other hw] using h.written hframe i hlt
    chk := fun _ => by simp [hsucc, rxBytes_write, h.chk hframe]
    payload := fun ho => by simp [hp] at ho }

/-- RX_CHK_OK (R170). -/
theorem checked (h : RxInv s) (hst : s.rx.state = .readChecksum) :
    RxInv (s.withRx { s.rx with state := .readEnd }) where
  legal := rfl
  buf := h.buf
  len := h.len
  idle := nofun
  rejected ho := by simp [h.pending (by simp [hst])] at ho
  delivered ho := by simp [h.pending (by simp [hst])] at ho
  cursor := nofun
  stored _ := h.stored (.inl hst)
  written _ := h.written (by simp [hst, RxState.holdsFrame])
  chk _ := h.chk (by simp [hst, RxState.holdsFrame])
  payload ho := by simp [h.pending (by simp [hst])] at ho

/-- RX_END_OK (R172): the payload delivered is the one stored, rx_wcur = rx_len bytes. -/
theorem delivery (h : RxInv s) (hst : s.rx.state = .readEnd) :
    RxInv (s.withRx { s.rx with state := .awaitStart, chk := 0#8, wcur := 0#8, outcome := .success }) where
  legal := rfl
  buf := h.buf
  len := h.len
  idle _ := ⟨rfl, rfl⟩
  rejected := nofun
  delivered _ := rfl
  cursor := nofun
  stored := nofun
  written := nofun
  chk := nofun
  payload _ := by
    rw [State.withRx_rx, ← h.stored (.inr hst)]
    exact h.written (by simp [hst, RxState.holdsFrame])

end RxInv

/-! ### The TransmitterContext after a transition -/

namespace TxInv

variable {s : State}

/-- A context TX_START makes (R200). -/
theorem started (s : State) {payload : List Byte} (hp : payload.length ≤ 255) :
    TxInv (s.withTx (.initial payload)) where
  legal := rfl
  plen := (Nat.mod_eq_of_lt (Nat.lt_succ_of_le hp)).symm
  frame := nofun
  unbuilt _ := ⟨rfl, rfl, rfl, rfl, .inl rfl⟩
  cursor := BitVec.le_refl 0#9
  sending := nofun
  awaiting := nofun
  attempts := Nat.zero_le _
  wait := Nat.two_pow_pos _
  outcome := rfl

/-- Past BUILD_AND_ARM the frame is built (R203). -/
theorem built (h : TxInv s) (hi : s.tx.state ≠ .init) (hb : s.tx.state ≠ .buildAndArm) : s.tx.built = true := by
  cases hbuilt : s.tx.built with
  | true => rfl
  | false =>
    obtain ⟨-, -, -, -, hst⟩ := h.unbuilt hbuilt
    exact absurd hst (not_or.mpr ⟨hi, hb⟩)

/-- TX_INIT, TX_AWAIT_NACK and TX_AWAIT_TIMEOUT go to BUILD_AND_ARM (R202, R210, R212). -/
theorem toBuildAndArm (h : TxInv s) (hst : s.tx.state = .init ∨ s.tx.state = .awaitResponse) :
    TxInv (s.withTx { s.tx with state := .buildAndArm }) where
  legal := rfl
  plen := h.plen
  frame := h.frame
  unbuilt hb := by
    obtain ⟨hframe, hflen, hcursor, hattempts, -⟩ := h.unbuilt hb
    exact ⟨hframe, hflen, hcursor, hattempts, .inr rfl⟩
  cursor := h.cursor
  sending := nofun
  awaiting := nofun
  attempts := h.attempts
  wait := h.wait
  outcome := by rcases hst with hst | hst <;> simp [h.outcome, hst]

/-- The first-entry action (R203). -/
theorem firstEntry (h : TxInv s) (hst : s.tx.state = .buildAndArm) : Ensures TxInv (firstEntry s) := by
  intro u hu
  by_cases hb : s.tx.built = true
  · rw [firstEntry_built hb] at hu
    cases hu
    exact h
  · have hb : s.tx.built = false := by simpa using hb
    obtain ⟨bs, he⟩ : ∃ bs, encodeFrame s.tx.payload = some bs := by
      cases he : encodeFrame s.tx.payload with
      | some bs => exact ⟨bs, rfl⟩
      | none => simp [Machine.firstEntry, hb, he] at hu
    rw [firstEntry_unbuilt hb he] at hu
    cases hu
    obtain ⟨-, -, hcursor, -, -⟩ := h.unbuilt hb
    have hlen := encodeFrame_length he
    have hplen := h.plen
    exact {
      legal := h.legal
      plen := h.plen
      frame := fun _ => ⟨bs, he, rfl, by rw [hlen, hplen]; simp; omega⟩
      unbuilt := nofun
      cursor := by rw [hcursor]; exact BitVec.le_def.mpr (Nat.zero_le _)
      sending := fun hs => by simp [hst] at hs
      awaiting := fun hs => by simp [hst] at hs
      attempts := Nat.zero_le _
      wait := h.wait
      outcome := h.outcome }

/-- TX_BUILD_EXHAUSTED (R204). -/
theorem exhausted (h : TxInv s) (hb : s.tx.built = true) :
    TxInv (s.withTx { s.tx with state := .retryExhausted, outcome := .retryExhausted }) where
  legal := rfl
  plen := h.plen
  frame := h.frame
  unbuilt hb' := by simp [hb] at hb'
  cursor := h.cursor
  sending := nofun
  awaiting := nofun
  attempts := h.attempts
  wait := h.wait
  outcome := rfl

/-- A built frame has bytes to send. -/
theorem flen_pos (h : TxInv s) (hb : s.tx.built = true) : 0#9 < s.tx.flen := by
  obtain ⟨bs, he, -, hflen⟩ := h.frame hb
  rw [BitVec.lt_def, hflen, encodeFrame_length he]
  simp

/-- TX_BUILD_ARM (R205). -/
theorem armed (h : TxInv s) (hst : s.tx.state = .buildAndArm) (hb : s.tx.built = true)
    (hlim : s.tx.attempts.toNat < s.cfg.retryLimit) :
    TxInv (s.withTx { s.tx with attempts := s.tx.attempts + 1#8, cursor := 0#9, state := .sending }) where
  legal := rfl
  plen := h.plen
  frame := h.frame
  unbuilt hb' := by simp [hb] at hb'
  cursor := BitVec.le_def.mpr (Nat.zero_le _)
  sending _ := h.flen_pos hb
  awaiting := nofun
  attempts := by simp [BitVec.toNat_add]; omega
  wait := h.wait
  outcome := by simp [h.outcome, hst]

/-- TX_SEND (R207). -/
theorem sent (h : TxInv s) (hst : s.tx.state = .sending) (hlt : s.tx.cursor + 1#9 < s.tx.flen) :
    TxInv (s.withTx { s.tx with cursor := s.tx.cursor + 1#9 }) where
  legal := h.legal
  plen := h.plen
  frame := h.frame
  unbuilt hb := by simp [h.built (by simp [hst]) (by simp [hst])] at hb
  cursor := BitVec.le_of_lt hlt
  sending _ := hlt
  awaiting hs := by simp [hst] at hs
  attempts := h.attempts
  wait := h.wait
  outcome := h.outcome

/-- TX_SEND_LAST (R208): the wait starts at a tick of the Clock. -/
theorem sentLast (h : TxInv s) (hclock : s.now < 2 ^ s.cfg.tickWidth) (hst : s.tx.state = .sending)
    (heq : s.tx.cursor + 1#9 = s.tx.flen) :
    TxInv (s.withTx { s.tx with cursor := s.tx.cursor + 1#9, waitStart := s.now, state := .awaitResponse }) where
  legal := rfl
  plen := h.plen
  frame := h.frame
  unbuilt hb := by simp [h.built (by simp [hst]) (by simp [hst])] at hb
  cursor := heq ▸ BitVec.le_refl _
  sending := nofun
  awaiting _ := heq
  attempts := h.attempts
  wait := hclock
  outcome := by simp [h.outcome, hst]

/-- TX_AWAIT_ACK (R209). -/
theorem acknowledged (h : TxInv s) (hst : s.tx.state = .awaitResponse) :
    TxInv (s.withTx { s.tx with state := .success, outcome := .success }) where
  legal := rfl
  plen := h.plen
  frame := h.frame
  unbuilt hb := by simp [h.built (by simp [hst]) (by simp [hst])] at hb
  cursor := h.cursor
  sending := nofun
  awaiting := nofun
  attempts := h.attempts
  wait := h.wait
  outcome := rfl

end TxInv

end Sys2Proof.Machine
end

section
/-! SUPPORT. Every operation keeps the invariant of the whole machine (R31 to R50). -/

namespace Sys2Proof.Machine

/-! ### Partial correctness of the shared operations -/

section ensures
variable {P : State → Prop} {s : State}

theorem Ensures.storePayloadByte {st : RxState} {b : Byte}
    (h : P ((s.withRx { s.rx with buf := Buffer.write s.rx.wcur.toNat b s.rx.buf, chk := s.rx.chk ^^^ b
                                  wcur := s.rx.wcur + 1#8, state := st }).ret (.rx .none))) :
    Ensures P (storePayloadByte st b s) := .ite (fun _ => .next h) fun _ => .fault _

/-- What holds after the frame byte is sent, whatever the byte, holds of a row that sends one. -/
theorem Ensures.sendFrameByte {f : State → Res}
    (h : ∀ b, Ensures P (f (((send s.cfg.topology.frames b s).emit (.txByte b)).withTx
      { s.tx with cursor := s.tx.cursor + 1#9 }))) : Ensures P (Machine.andThen (Machine.sendFrameByte s) f) := by
  intro t ht
  obtain ⟨u, hu, hut⟩ := andThen_eq_next ht
  obtain ⟨-, rfl⟩ := sendFrameByte_eq_next hu
  exact h _ t hut

theorem Ensures.environmentAct {k : Queue} {act : Res} (hret : P (s.ret .nothing))
    (hact : k.isIn s.cfg.topology = true → Ensures P act) : Ensures P (environmentAct k s act) := by
  intro t ht
  obtain ⟨hk, ⟨-, rfl⟩ | ⟨-, ht⟩⟩ := environmentAct_eq_next ht
  · exact hret
  · exact hact hk t ht

theorem Ensures.codecEncode {payload : List Byte} (h : ∀ r, P (s.ret r)) : Ensures P (execCodecEncode payload s) := by
  unfold execCodecEncode
  split
  · exact .next (h _)
  · exact .refused _

end ensures

/-! ### The invariant -/

namespace State.Inv

variable {s : State}

theorem receive (h : s.Inv) (k : Queue) : (receive k s).Inv := h.of_harness (h.harness.receive k)

theorem send (h : s.Inv) {k : Queue} (hk : k.isIn s.cfg.topology = true) (b : Byte) : (send k b s).Inv :=
  h.of_harness (h.harness.send hk b)

theorem insertionPoint (h : s.Inv) : (insertionPoint s).Inv := h.of_harness h.harness.insertionPoint

theorem tick (h : s.Inv) : (tick s).Inv := h.of_harness h.harness.tick rfl rfl rfl

theorem reject (h : s.Inv) (reason : RejectReason) : (reject reason s).Inv := by
  simpa [Machine.reject] using h.withRx h.rx.rejection

theorem deliver (h : s.Inv) (hst : s.rx.state = .readEnd) : (deliver s).Inv where
  rx := (h.rx.delivery hst).congr (by simp [Machine.deliver]) (by simp [Machine.deliver])
  tx := h.tx.congr (by simp [Machine.deliver]) (by simp [Machine.deliver])
  harness :=
    have hsent : HarnessInv (s.withRx { s.rx with outcome := .success }) := h.harness.congr rfl rfl fun _ => rfl
    (hsent.send (by simp) ack).congr rfl rfl fun _ => rfl

theorem storePayloadByte (h : s.Inv) (hst : s.rx.state = .readPayload) (b : Byte) {st : RxState}
    (hnext : st = .readPayload ∧ s.rx.wcur + 1#8 < s.rx.len ∨ st = .readChecksum ∧ s.rx.wcur + 1#8 = s.rx.len) :
    Ensures State.Inv (storePayloadByte st b s) :=
  .storePayloadByte ((inv_ret _ _).mpr (h.withRx (h.rx.byteStored hst b hnext)))

/-- After the first-entry action the frame is built and the state is still BUILD_AND_ARM (R203). -/
theorem firstEntry (h : s.Inv) (hst : s.tx.state = .buildAndArm) :
    Ensures (fun u => u.Inv ∧ u.tx.state = .buildAndArm ∧ u.tx.built = true) (firstEntry s) := by
  intro u hu
  have htx := h.tx.firstEntry hst u hu
  obtain ⟨hb, hst', -, hu, -⟩ := firstEntry_eq_next hu
  rw [hu] at htx ⊢
  exact ⟨h.withTx htx, hst'.trans hst, hb⟩

/-- A frame byte goes out and the transmitter is as the row leaves it (R207, R208). -/
theorem byteSent (h : s.Inv) (b : Byte) {x : TransmitterContext} (hx : TxInv (s.withTx x)) (r : OpResult) :
    ((((Machine.send s.cfg.topology.frames b s).emit (.txByte b)).withTx x).ret r).Inv :=
  (inv_ret _ _).mpr (((inv_emit _ _).mpr (h.send (by simp) b)).withTx hx)

theorem endRun (h : s.Inv) : (endRun s).Inv := by
  unfold Machine.endRun
  split <;> simpa using h

/-- Every elementary operation, row by row. -/
theorem elementary {i : Instr} (hi : i.isElementary = true) (h : s.Inv) : Ensures State.Inv (exec i s) := by
  cases i with
  | rxIdle | codecDecode => exact .next ((inv_ret _ _).mpr h)
  | rxStray | rxIllegal | txAwaitWait | txTerminal | txIllegal | txDestroy | codecChecksum | codecValidate =>
    exact .guard fun _ => .next (by simpa using h)
  | rxCreate => exact .next ((inv_ret _ _).mpr (h.withRx (.initial s)))
  | rxStart => exact .guard fun _ => .next ((inv_ret _ _).mpr (h.withRx h.rx.started))
  | rxLenOversize | rxChkBad | rxEndBad => exact .guard fun _ => .next (h.reject _)
  | rxLenZero => exact .guard fun hst => .next ((inv_ret _ _).mpr (h.withRx (h.rx.lengthZero hst)))
  | rxLen =>
    exact .guard fun ⟨hst, hpos, hmax⟩ => .next ((inv_ret _ _).mpr (h.withRx (h.rx.length hst hpos hmax)))
  | rxPayload b => exact .guard fun ⟨hst, hlt⟩ => h.storePayloadByte hst b (.inl ⟨rfl, hlt⟩)
  | rxPayloadLast b => exact .guard fun ⟨hst, heq⟩ => h.storePayloadByte hst b (.inr ⟨rfl, heq⟩)
  | rxChkOk => exact .guard fun ⟨hst, _⟩ => .next ((inv_ret _ _).mpr (h.withRx (h.rx.checked hst)))
  | rxEndOk => exact .guard fun hst => .ite (fun _ => .next (h.deliver hst)) fun _ => .fault _
  | txInit => exact .guard fun hst => .next ((inv_ret _ _).mpr (h.withTx (h.tx.toBuildAndArm (.inl hst))))
  | txBuildExhausted =>
    exact .guard fun hst => .andThen (h.firstEntry hst) fun u ⟨hu, _, hb⟩ =>
      .guard fun _ => .next (by simpa using hu.withTx (hu.tx.exhausted hb))
  | txBuildArm =>
    exact .guard fun hst => .andThen (h.firstEntry hst) fun u ⟨hu, hst', hb⟩ =>
      .guard fun hlim => .next ((inv_ret _ _).mpr (hu.withTx (hu.tx.armed hst' hb hlim)))
  | txSend =>
    exact .guard fun ⟨hst, hlt⟩ => .sendFrameByte fun b => .next (h.byteSent b (h.tx.sent hst hlt) _)
  | txSendLast =>
    exact .guard fun ⟨hst, heq⟩ => .sendFrameByte fun b =>
      .next (h.byteSent b (by simpa using h.tx.sentLast h.harness.clock hst heq) _)
  | txAwaitAck =>
    exact .guard fun ⟨hst, _⟩ => .next (by simpa [takeResponse] using (h.receive _).withTx (h.tx.acknowledged hst))
  | txAwaitNack =>
    exact .guard fun ⟨hst, _⟩ => .next ((inv_ret _ _).mpr ((h.receive _).withTx (h.tx.toBuildAndArm (.inr hst))))
  | txAwaitStray => exact .guard fun _ => .next ((inv_ret _ _).mpr (h.receive _))
  | txAwaitTimeout =>
    exact .guard fun ⟨hst, _⟩ => .next ((inv_ret _ _).mpr (h.withTx (h.tx.toBuildAndArm (.inr hst))))
  | txStart =>
    exact .ite (fun _ => .refused _) fun hp => .ite (fun _ => .refused _) fun _ =>
      .next (by simpa using h.withTx (.started s (Nat.not_lt.mp hp)))
  | codecEncode => exact .codecEncode fun r => (inv_ret s r).mpr h
  | envInject k b =>
    exact .environmentAct ((inv_ret _ _).mpr h) fun hk =>
      .guard fun hroom => .next ((inv_ret _ _).mpr (h.of_harness (h.harness.append hk hroom b)))
  | envDropNext => exact .environmentAct ((inv_ret _ _).mpr h) fun _ => .next (by simpa using h)
  | rxStep | txStep | schedRound | schedRun | harnessCreate => cases hi

/-- What HARNESS_CREATE makes within the ranges of R8 to R13 meets the invariant (R240, R301). -/
theorem created {c : Cfg} (hc : c.InRange) : (State.created c).Inv where
  rx := (RxInv.initial (State.created c)).congr rfl rfl
  tx := (TxInv.started (State.created c) (payload := []) (Nat.zero_le _)).congr rfl rfl
  harness :=
    { range := hc
      clock := Nat.two_pow_pos _
      capacity := fun k => by simp [State.bytes, State.created, Fifo.empty]
      topology := fun k _ => by simp [State.bytes, State.created, Fifo.empty] }

end State.Inv

theorem kept_inv : Kept State.Inv where
  elementary hi h := h.elementary hi
  ret r h := (inv_ret _ r).mpr h
  withIter n h := (inv_withIter _ n).mpr h
  receive k h := h.receive k
  insertionPoint h := h.insertionPoint
  tick h := h.tick
  endRun h := h.endRun

/-- Every operation, HARNESS_CREATE included, keeps the invariant. -/
theorem exec_inv (i : Instr) {s : State} (h : s.Inv) : Ensures State.Inv (exec i s) := by
  by_cases hi : ∃ c, i = .harnessCreate c
  · obtain ⟨c, rfl⟩ := hi
    intro t ht
    obtain ⟨hc, rfl⟩ := execHarnessCreate_eq_next ht
    refine (inv_congr ?_ ?_ ?_ ?_ fun _ => ?_).mpr (State.Inv.created hc) <;> rfl
  · exact kept_inv.exec (fun c hc => hi ⟨c, hc⟩) h

/-- Settles O54: a step idles, or runs one operation on a state that differs in the program alone. -/
theorem everyStepKeepsTheInvariant : Obligations.EveryStepKeepsTheInvariant := by
  unfold Obligations.EveryStepKeepsTheInvariant
  intro s t hs h
  obtain ⟨-, rfl⟩ | ⟨slot, rest, i, -, -, h⟩ := step_eq_next h
  · exact hs
  · exact exec_inv i ((inv_withProgram s rest).mpr hs) t h

end Sys2Proof.Machine
end

section
/-! SUPPORT. What a transition leaves alone, and with it every step of an engine: the harness's registers (R243) and
the message captured by TX_START (R39, R40). The induction `Kept` over all elementary operations cannot say this:
TX_START is one of them and writes a new message. -/

namespace Sys2Proof

/-- The 25 rows of the transition map (R118). -/
def Instr.isTransition : Instr → Bool
  | .rxIdle _ | .rxStart | .rxStray _ | .rxLenOversize _ | .rxLenZero | .rxLen _ | .rxPayload _ | .rxPayloadLast _
  | .rxChkOk _ | .rxChkBad _ | .rxEndOk | .rxEndBad _ | .rxIllegal _ _
  | .txInit | .txBuildExhausted | .txBuildArm | .txSend | .txSendLast | .txAwaitAck | .txAwaitNack | .txAwaitStray _
  | .txAwaitTimeout | .txAwaitWait | .txTerminal _ | .txIllegal _ => true
  | _ => false

end Sys2Proof

namespace Sys2Proof.Machine

/-- rxApply runs its own rows as `exec` does and refuses every other operation. -/
theorem rxApply_cases (i : Instr) : (i.isTransition = true ∧ ∀ s, rxApply i s = exec i s) ∨
    ∀ s, rxApply i s = .refused .rowNotSelected := by
  cases i with
  | rxIdle | rxStart | rxStray | rxLenOversize | rxLenZero | rxLen | rxPayload | rxPayloadLast | rxChkOk | rxChkBad
  | rxEndOk | rxEndBad | rxIllegal => exact .inl ⟨rfl, fun _ => rfl⟩
  | _ => exact .inr fun _ => rfl

/-- txApply runs its own rows as `exec` does and refuses every other operation. -/
theorem txApply_cases (i : Instr) : (i.isTransition = true ∧ ∀ s, txApply i s = exec i s) ∨
    ∀ s, txApply i s = .refused .rowNotSelected := by
  cases i with
  | txInit | txBuildExhausted | txBuildArm | txSend | txSendLast | txAwaitAck | txAwaitNack | txAwaitStray
  | txAwaitTimeout | txAwaitWait | txTerminal | txIllegal => exact .inl ⟨rfl, fun _ => rfl⟩
  | _ => exact .inr fun _ => rfl

/-- `t` holds the message that `s` holds: the captured payload, the frame once built, and an attempt count within the
limit if it was (R39, R40, R48). -/
structure SameMessage (s t : State) : Prop where
  payload : t.tx.payload = s.tx.payload
  plen : t.tx.plen = s.tx.plen
  built : s.tx.built = true → t.tx.built = true ∧ t.tx.frame = s.tx.frame ∧ t.tx.flen = s.tx.flen
  attempts : s.tx.attempts.toNat ≤ s.cfg.retryLimit → t.tx.attempts.toNat ≤ t.cfg.retryLimit

namespace SameMessage

variable {s t u : State}

theorem of_tx_eq (htx : t.tx = s.tx := by simp) (hcfg : t.cfg = s.cfg := by simp) : SameMessage s t := by
  constructor <;> simp [htx, hcfg]

theorem trans (h : SameMessage s u) (h' : SameMessage u t) : SameMessage s t where
  payload := h'.payload.trans h.payload
  plen := h'.plen.trans h.plen
  built hb := by
    obtain ⟨hub, huf, hul⟩ := h.built hb
    obtain ⟨htb, htf, htl⟩ := h'.built hub
    exact ⟨htb, htf.trans huf, htl.trans hul⟩
  attempts ha := h'.attempts (h.attempts ha)

/-- The first-entry action builds the frame of the payload held, and only where none is built (R203). -/
theorem firstEntry : Ensures (SameMessage s) (firstEntry s) := by
  unfold Machine.firstEntry
  split
  · exact .next .of_tx_eq
  · next hb =>
    split
    · exact .next ⟨rfl, rfl, fun hb' => absurd hb' hb, fun _ => Nat.zero_le _⟩
    · exact .refused _

/-- A transition writes neither the payload nor a built frame, and counts an attempt only below the limit (R205). -/
theorem transition {i : Instr} (hi : i.isTransition = true) (s : State) : Ensures (SameMessage s) (exec i s) := by
  cases i with
  | rxIdle => exact .next .of_tx_eq
  | rxStart | rxStray | rxLenOversize | rxLenZero | rxLen | rxChkOk | rxChkBad | rxEndBad | rxIllegal
  | txAwaitWait | txTerminal | txIllegal => exact .guard fun _ => .next (.of_tx_eq rfl rfl)
  | rxPayload | rxPayloadLast => exact .guard fun _ => .storePayloadByte .of_tx_eq
  | rxEndOk =>
    exact .guard fun _ => .ite (fun _ => .next (.of_tx_eq (by simp [deliver]) (by simp [deliver]))) fun _ => .fault _
  | txInit | txAwaitTimeout | txAwaitAck | txAwaitNack | txAwaitStray =>
    exact .guard fun _ => .next (by constructor <;> simp [takeResponse])
  | txBuildExhausted =>
    exact .guard fun _ => .andThen SameMessage.firstEntry fun u hu =>
      .guard fun _ => .next (hu.trans (by constructor <;> simp))
  | txBuildArm =>
    refine .guard fun _ => .andThen SameMessage.firstEntry fun u hu => .guard fun hlim => .next (hu.trans ?_)
    refine ⟨rfl, rfl, fun hb => ⟨hb, rfl, rfl⟩, fun _ => ?_⟩
    simp [BitVec.toNat_add]
    omega
  | txSend | txSendLast => exact .guard fun _ => .sendFrameByte fun b => .next (by constructor <;> simp)
  | codecChecksum | codecEncode | codecValidate | codecDecode | rxCreate | rxStep | txStart | txStep | txDestroy
  | harnessCreate | schedRound | schedRun | envInject | envDropNext => cases hi

end SameMessage

/-- `t` has the harness's registers of `s`, and under the invariant nothing faulted between them. -/
structure SameHarness (s t : State) : Prop where
  cfg : t.cfg = s.cfg
  txLive : t.txLive = s.txLive
  now : t.now = s.now
  iter : t.iter = s.iter
  faulted : s.Inv → t.faulted = s.faulted

/-- A transition leaves the harness's registers alone; it raises only in an unused state code, which the invariant
excludes. -/
theorem SameHarness.transition {i : Instr} (hi : i.isTransition = true) (s : State) :
    Ensures (SameHarness s) (exec i s) := by
  cases i with
  | rxIdle => exact .next (by constructor <;> simp)
  | rxStart | rxStray | rxLenOversize | rxLenZero | rxLen | rxChkOk | rxChkBad | rxEndBad
  | txInit | txAwaitTimeout | txAwaitAck | txAwaitNack | txAwaitStray | txAwaitWait | txTerminal =>
    exact .guard fun _ => .next (by constructor <;> simp [takeResponse, reject])
  | rxPayload | rxPayloadLast => exact .guard fun _ => .storePayloadByte (by constructor <;> simp)
  | rxEndOk => exact .guard fun _ => .ite (fun _ => .next (by constructor <;> simp [deliver])) fun _ => .fault _
  | txBuildExhausted | txBuildArm =>
    refine .guard fun _ => .andThen (Q := fun u => u = { s with tx := u.tx }) ?_ fun u hu => .guard fun _ => .next ?_
    · intro u hu
      obtain ⟨-, -, -, hu, -⟩ := firstEntry_eq_next hu
      exact hu
    · rw [hu]
      constructor <;> simp
  | txSend | txSendLast => exact .guard fun _ => .sendFrameByte fun b => .next (by constructor <;> simp)
  | rxIllegal c =>
    refine .guard fun ⟨hst, hc⟩ => .next ⟨rfl, rfl, rfl, rfl, fun h => ?_⟩
    simp [← hst, h.rx.legal] at hc
  | txIllegal c =>
    refine .guard fun ⟨hst, hc⟩ => .next ⟨rfl, rfl, rfl, rfl, fun h => ?_⟩
    simp [← hst, h.tx.legal] at hc
  | codecChecksum | codecEncode | codecValidate | codecDecode | rxCreate | rxStep | txStart | txStep | txDestroy
  | harnessCreate | schedRound | schedRun | envInject | envDropNext => cases hi

/-- `t` is reached from `s` by steps of the engines, with the round's Receive and insertions between them. -/
structure Stepped (s t : State) : Prop where
  harness : SameHarness s t
  message : SameMessage s t
  inv : s.Inv → t.Inv

namespace Stepped

variable {s t u : State}

theorem trans (h : Stepped s u) (h' : Stepped u t) : Stepped s t where
  harness :=
    { cfg := h'.harness.cfg.trans h.harness.cfg
      txLive := h'.harness.txLive.trans h.harness.txLive
      now := h'.harness.now.trans h.harness.now
      iter := h'.harness.iter.trans h.harness.iter
      faulted := fun hs => (h'.harness.faulted (h.inv hs)).trans (h.harness.faulted hs) }
  message := h.message.trans h'.message
  inv hs := h'.inv (h.inv hs)

theorem ret (s : State) (r : OpResult) : Stepped s (s.ret r) :=
  ⟨by constructor <;> simp, .of_tx_eq, (inv_ret s r).mpr⟩

theorem receive (k : Queue) (s : State) : Stepped s (receive k s) :=
  ⟨by constructor <;> simp, .of_tx_eq, fun h => h.receive k⟩

theorem insertionPoint (s : State) : Stepped s (insertionPoint s) :=
  ⟨by constructor <;> simp, .of_tx_eq, fun h => h.insertionPoint⟩

theorem transition {i : Instr} (hi : i.isTransition = true) (s : State) : Ensures (Stepped s) (exec i s) :=
  fun t ht => ⟨.transition hi s t ht, .transition hi s t ht, fun h => exec_inv i h t ht⟩

theorem rxApply (i : Instr) (s : State) : Ensures (Stepped s) (rxApply i s) := by
  obtain ⟨hi, he⟩ | he := rxApply_cases i <;> rw [he]
  · exact transition hi s
  · exact .refused _

theorem txApply (i : Instr) (s : State) : Ensures (Stepped s) (txApply i s) := by
  obtain ⟨hi, he⟩ | he := txApply_cases i <;> rw [he]
  · exact transition hi s
  · exact .refused _

theorem execRxStep (input : Option Byte) (s : State) : Ensures (Stepped s) (execRxStep input s) := by
  unfold Machine.execRxStep
  split
  · exact rxApply _ s
  · exact .refused _
  · exact .fault _

theorem txTransition (s : State) : Ensures (Stepped s) (txTransition s) := by
  unfold Machine.txTransition
  split
  · exact txApply _ s
  · exact .refused _
  · exact .fault _

theorem txChain (n : Nat) (s : State) : Ensures (Stepped s) (txChain n s) := by
  induction n generalizing s with
  | zero => exact .next ⟨by constructor <;> simp, .of_tx_eq, id⟩
  | succ n ih =>
    exact .andThen (txTransition s) fun u hu => .ite (fun _ t ht => hu.trans (ih u t ht)) fun _ => .next hu

theorem rxTurn (en : Bool) (s : State) : Ensures (Stepped s) (rxTurn en s) :=
  .ite (fun _ t ht => ((receive _ s).trans (insertionPoint _)).trans (execRxStep _ _ t ht)) fun _ => .next (ret s _)

theorem txTurn (s : State) : Ensures (Stepped s) (txTurn s) :=
  .ite (fun _ => txChain 3 s) fun _ => .next (ret s _)

end Stepped

/-- A round steps the engines and then, unless one of them raised, advances the Clock once and returns (R242, R243). -/
theorem round_cases (en : Bool) (s : State) : Ensures (fun t => t.raised = true ∧ Stepped s t ∨
    ∃ u r, Stepped s u ∧ t = (tick u).ret r ∧ t.raised = false) (round en s) := by
  intro t ht
  obtain ⟨s1, h1, hend1⟩ := unlessRaised_eq_next ht
  have hs1 : Stepped s s1 := (Stepped.insertionPoint s).trans (.rxTurn en _ _ h1)
  obtain ⟨hr1, rfl⟩ | ⟨-, ht⟩ := hend1
  · exact .inl ⟨hr1, hs1⟩
  obtain ⟨s2, h2, hend2⟩ := unlessRaised_eq_next ht
  have hs2 : Stepped s s2 := hs1.trans ((Stepped.insertionPoint s1).trans (.txTurn _ _ h2))
  obtain ⟨hr2, rfl⟩ | ⟨-, ht⟩ := hend2
  · exact .inl ⟨hr2, hs2⟩
  cases ht
  exact .inr ⟨_, _, hs2.trans (.insertionPoint s2), rfl, rfl⟩

/-! ### The message and the attempts -/

namespace SameMessage

variable {s : State}

theorem round (en : Bool) (s : State) : Ensures (SameMessage s) (round en s) := by
  intro t ht
  obtain ⟨-, h⟩ | ⟨u, r, h, rfl, -⟩ := round_cases en s t ht
  · exact h.message
  · exact h.message.trans (.of_tx_eq rfl rfl)

theorem runLoop (n : Nat) (en : List Bool) (s : State) : Ensures (SameMessage s) (runLoop n en s) := by
  induction n generalizing en s with
  | zero => exact .next .of_tx_eq
  | succ n ih =>
    exact .ite (fun _ => .next .of_tx_eq) fun _ => .unlessRaised (.round _ s) fun u hu t ht =>
      (hu.trans .of_tx_eq).trans (ih en.tail (u.withIter (u.iter + 1)) t ht)

theorem endRun (s : State) : SameMessage s (endRun s) := by
  unfold Machine.endRun
  split <;> exact .of_tx_eq

theorem execSchedRun (n : Nat) (en : List Bool) (s : State) : Ensures (SameMessage s) (execSchedRun n en s) :=
  .guard fun _ => .unlessRaised (fun t ht => trans .of_tx_eq (.runLoop n en (s.withIter 0) t ht)) fun u hu =>
    .next (hu.trans (.endRun u))

/-- Every operation but TX_START and HARNESS_CREATE keeps the message. -/
theorem exec {i : Instr} (hs : ∀ p, i ≠ .txStart p) (hc : ∀ c, i ≠ .harnessCreate c) (s : State) :
    Ensures (SameMessage s) (exec i s) := by
  by_cases hi : i.isTransition = true
  · exact transition hi s
  cases i with
  | rxStep input => exact fun t ht => (Stepped.execRxStep input s t ht).message
  | txStep => exact fun t ht => (Stepped.txChain 3 s t ht).message
  | schedRound en => exact round en s
  | schedRun n en => exact execSchedRun n en s
  | txStart p => exact absurd rfl (hs p)
  | harnessCreate c => exact absurd rfl (hc c)
  | rxCreate | codecDecode => exact .next .of_tx_eq
  | txDestroy | codecChecksum | codecValidate => exact .guard fun _ => .next .of_tx_eq
  | codecEncode => exact .codecEncode fun _ => .of_tx_eq
  | envInject => exact .environmentAct .of_tx_eq fun _ => .guard fun _ => .next .of_tx_eq
  | envDropNext => exact .environmentAct .of_tx_eq fun _ => .next .of_tx_eq
  | _ => exact absurd rfl hi

end SameMessage

/-- Settles O41: every such operation keeps the message, of which payload and built frame are parts. -/
theorem payloadAndBuiltFrameAreFixed : Obligations.PayloadAndBuiltFrameAreFixed := by
  unfold Obligations.PayloadAndBuiltFrameAreFixed
  intro i s t hs hc h
  have hm := SameMessage.exec hs hc s t h
  exact ⟨hm.payload, hm.plen, hm.built⟩

/-- Every operation leaves the attempt count within the limit; TX_START and HARNESS_CREATE set it to 0. -/
theorem exec_attempts (i : Instr) {s : State} (h : s.tx.attempts.toNat ≤ s.cfg.retryLimit) :
    Ensures (fun t => t.tx.attempts.toNat ≤ t.cfg.retryLimit) (exec i s) := by
  by_cases hi : (∃ p, i = .txStart p) ∨ ∃ c, i = .harnessCreate c
  · obtain ⟨p, rfl⟩ | ⟨c, rfl⟩ := hi
    · exact .ite (fun _ => .refused _) fun _ => .ite (fun _ => .refused _) fun _ => .next (Nat.zero_le _)
    · exact .guard fun _ => .next (Nat.zero_le _)
  · rw [not_or, not_exists, not_exists] at hi
    exact fun t ht => (SameMessage.exec hi.1 hi.2 s t ht).attempts h

/-- Settles O43: a step idles, or runs one operation on a state that differs in the program alone. -/
theorem attemptsNeverExceedTheRetryLimit : Obligations.AttemptsNeverExceedTheRetryLimit := by
  unfold Obligations.AttemptsNeverExceedTheRetryLimit
  intro s t hs h
  obtain ⟨-, rfl⟩ | ⟨slot, rest, i, -, -, h⟩ := step_eq_next h
  · exact hs
  · exact exec_attempts i (by simpa using hs) t h

/-! ### The Clock -/

/-- An operation that steps no round and makes no harness does not write the Clock (R242). -/
theorem exec_now {i : Instr} (hround : ∀ en, i ≠ .schedRound en) (hrun : ∀ n en, i ≠ .schedRun n en)
    (hc : ∀ c, i ≠ .harnessCreate c) (s : State) : Ensures (fun t => t.now = s.now) (exec i s) := by
  by_cases hi : i.isTransition = true
  · exact fun t ht => (Stepped.transition hi s t ht).harness.now
  cases i with
  | rxStep input => exact fun t ht => (Stepped.execRxStep input s t ht).harness.now
  | txStep => exact fun t ht => (Stepped.txChain 3 s t ht).harness.now
  | schedRound en => exact absurd rfl (hround en)
  | schedRun n en => exact absurd rfl (hrun n en)
  | harnessCreate c => exact absurd rfl (hc c)
  | txStart => exact .ite (fun _ => .refused _) fun _ => .ite (fun _ => .refused _) fun _ => .next rfl
  | rxCreate | codecDecode => exact .next rfl
  | txDestroy | codecChecksum | codecValidate => exact .guard fun _ => .next rfl
  | codecEncode => exact .codecEncode fun _ => rfl
  | envInject => exact .environmentAct rfl fun _ => .guard fun _ => .next rfl
  | envDropNext => exact .environmentAct rfl fun _ => .next rfl
  | _ => exact absurd rfl hi

/-- A round that did not raise advances the Clock by one (R242). -/
theorem round_now {en : Bool} {s t : State} (h : round en s = .next t) (hr : t.raised = false) :
    t.now = (s.now + 1) % 2 ^ s.cfg.tickWidth ∧ t.iter = s.iter ∧ t.cfg = s.cfg := by
  obtain ⟨hr', -⟩ | ⟨u, r, hu, rfl, -⟩ := round_cases en s t h
  · simp [hr'] at hr
  · simp [tick, hu.harness.now, hu.harness.cfg, hu.harness.iter]

/-- The loop of a run that did not raise advances the Clock and iter by one for each of its rounds (R246). -/
theorem runLoop_now {n : Nat} {en : List Bool} {s t : State} (h : runLoop n en s = .next t) (hr : t.raised = false)
    (hclock : s.now < 2 ^ s.cfg.tickWidth) :
    ∃ k, t.iter = s.iter + k ∧ t.now = (s.now + k) % 2 ^ s.cfg.tickWidth := by
  induction n generalizing en s with
  | zero => cases h; exact ⟨0, rfl, (Nat.mod_eq_of_lt hclock).symm⟩
  | succ n ih =>
    rw [runLoop] at h
    split at h
    · cases h; exact ⟨0, rfl, (Nat.mod_eq_of_lt hclock).symm⟩
    · obtain ⟨u, hu, ⟨hru, rfl⟩ | ⟨hru, ht⟩⟩ := unlessRaised_eq_next h
      · simp [hru] at hr
      · obtain ⟨hnow, hiter, hcfg⟩ := round_now hu hru
        obtain ⟨k, hk, hkn⟩ := ih ht (by simpa [hnow, hcfg] using Nat.mod_lt _ (Nat.two_pow_pos _))
        refine ⟨k + 1, ?_, ?_⟩
        · simp [hk, hiter]; omega
        · simp [hkn, hnow, hcfg, Nat.add_assoc, Nat.add_comm 1 k]

@[simp] theorem endRun_now (s : State) : (endRun s).now = s.now := by
  unfold endRun
  split <;> rfl

@[simp] theorem endRun_iter (s : State) : (endRun s).iter = s.iter := by
  unfold endRun
  split <;> rfl

/-- Where a run goes on: from its loop, which raised or not (R246). -/
theorem execSchedRun_eq_next {n : Nat} {en : List Bool} {s t : State} (h : execSchedRun n en s = .next t) :
    s.txLive = true ∧ ∃ u, runLoop n en (s.withIter 0) = .next u ∧
      (u.raised = true ∧ t = u ∨ u.raised = false ∧ t = endRun u) := by
  unfold execSchedRun at h
  split at h
  · next hlive =>
    obtain ⟨u, hu, hut⟩ := unlessRaised_eq_next h
    refine ⟨hlive, u, hu, hut.imp id ?_⟩
    rintro ⟨hr, ht⟩
    cases ht
    exact ⟨hr, rfl⟩
  · cases h

/-- Settles O46: a round ticks once, a run once for each of its rounds, and no other operation writes the Clock. -/
theorem clockAdvancesOnlyInRounds : Obligations.ClockAdvancesOnlyInRounds := by
  unfold Obligations.ClockAdvancesOnlyInRounds
  intro i s t h
  refine ⟨?round, ?run, fun hround hrun hc => exec_now hround hrun hc s t h⟩
  case round =>
    rintro ⟨en, rfl⟩ hr
    exact (round_now h hr).1
  case run =>
    rintro ⟨n, en, rfl⟩ hr hclock
    obtain ⟨-, u, hu, ⟨hru, rfl⟩ | ⟨hru, rfl⟩⟩ := execSchedRun_eq_next h
    · simp [hru] at hr
    · obtain ⟨k, hk, hkn⟩ := runLoop_now hu hru hclock
      simp [hk, hkn]

end Sys2Proof.Machine
end

section
/-! SUPPORT. Under the invariant every engine step completes with a result of its engine (R161, R201), so a round
completes without a raise (R243). -/

namespace Sys2Proof

/-- How many transitions of a TX step may still follow one in this state (R201). -/
def TxState.chainRank : TxState → Nat
  | .init | .awaitResponse => 2
  | .buildAndArm => 1
  | .sending | .success | .retryExhausted | .unused6 | .unused7 => 0

theorem TxState.chainRank_lt (c : TxState) : c.chainRank < 3 := by cases c <;> decide

end Sys2Proof

namespace Sys2Proof.Machine

/-! ### RX_STEP -/

/-- RX_STEP completes by the row its state and input select, if the row does (R161). -/
theorem execRxStep_completes_by {input : Option Byte} {s t : State} {i : Instr} {r : RxResult}
    (hrow : decodeRx (guardsOf s) s.rx.state input.isSome (input.getD 0#8) = .instr i)
    (hexec : rxApply i s = .next t) (hresult : t.result = .rx r) :
    ∃ t r, execRxStep input s = .next t ∧ t.result = .rx r := by
  have hd : decode (guardsOf s) (rxTsel input s) = .instr i := by simpa [rxTsel, decode_tselWord] using hrow
  exact ⟨t, r, by simp [execRxStep, hd, hexec], hresult⟩

/-- From every receiver of the invariant RX_STEP completes with an RX result, whatever its input (R161). -/
theorem execRxStep_completes {s : State} (h : RxInv s) (input : Option Byte) :
    ∃ t r, execRxStep input s = .next t ∧ t.result = .rx r := by
  cases input with
  | none => exact execRxStep_completes_by (i := .rxIdle s.rx.state) rfl rfl rfl
  | some b =>
    cases hst : s.rx.state with
    | awaitStart =>
      by_cases hb : b = stx
      · exact execRxStep_completes_by (i := .rxStart) (by simp [decodeRx, hst, hb]) (if_pos hst) rfl
      · exact execRxStep_completes_by (i := .rxStray b) (by simp [decodeRx, hst, hb]) (if_pos ⟨hst, hb⟩) rfl
    | readLength =>
      by_cases hmax : s.cfg.maxPayload < b.toNat
      · exact execRxStep_completes_by (i := .rxLenOversize b) (by simp [decodeRx, guardsOf, hst, hmax])
          (if_pos ⟨hst, hmax⟩) rfl
      by_cases hb : b = 0#8
      · exact execRxStep_completes_by (i := .rxLenZero) (by simp [decodeRx, guardsOf, hst, hb]) (if_pos hst) rfl
      · exact execRxStep_completes_by (i := .rxLen b) (by simp [decodeRx, guardsOf, hst, hmax, hb])
          (if_pos ⟨hst, by bv_omega, Nat.not_lt.mp hmax⟩) rfl
    | readPayload =>
      have hcursor := h.cursor hst
      have hroom : s.rx.wcur.toNat < s.cfg.maxPayload := Nat.lt_of_lt_of_le (BitVec.lt_def.mp hcursor) h.len
      by_cases hlt : s.rx.wcur + 1#8 < s.rx.len
      · exact execRxStep_completes_by (i := .rxPayload b) (by simp [decodeRx, guardsOf, hst, hlt])
          ((if_pos ⟨hst, hlt⟩).trans (storePayloadByte_inRange hroom _ b)) rfl
      · have heq : s.rx.wcur + 1#8 = s.rx.len := by bv_omega
        exact execRxStep_completes_by (i := .rxPayloadLast b) (by simp [decodeRx, guardsOf, hst, heq])
          ((if_pos ⟨hst, heq⟩).trans (storePayloadByte_inRange hroom _ b)) rfl
    | readChecksum =>
      by_cases hb : b = s.rx.chk
      · exact execRxStep_completes_by (i := .rxChkOk b) (by simp [decodeRx, guardsOf, hst, hb])
          (if_pos ⟨hst, hb⟩) rfl
      · exact execRxStep_completes_by (i := .rxChkBad b) (by simp [decodeRx, guardsOf, hst, hb])
          (if_pos ⟨hst, hb⟩) rfl
    | readEnd =>
      by_cases hb : b = etx
      · exact execRxStep_completes_by (i := .rxEndOk) (by simp [decodeRx, hst, hb])
          ((if_pos hst).trans (if_pos h.len)) rfl
      · exact execRxStep_completes_by (i := .rxEndBad b) (by simp [decodeRx, hst, hb]) (if_pos ⟨hst, hb⟩) rfl
    | unused5 | unused6 | unused7 => exact absurd h.legal (by simp [hst, RxState.isUnused])

/-! ### TX_STEP -/

/-- A transition from `s` to `t` ends its TX step, or goes on to a context of the invariant nearer the step's end
(R201). -/
inductive EndsOrContinues (s t : State) : Prop where
  | ends (r : TxResult) (result : t.result = .tx r)
  | continues (result : t.result = .txContinue) (inv : TxInv t) (nearer : t.tx.state.chainRank < s.tx.state.chainRank)

/-- A TX transition completes by the row its state, poll and guards select, if the row does (R117). -/
theorem txTransition_completes_by {s t : State} {i : Instr}
    (hrow : decodeTx (guardsOf s) s.tx.state (poll s).isSome ((poll s).getD 0#8) = .instr i)
    (hexec : txApply i s = .next t) (hend : EndsOrContinues s t) :
    ∃ t, txTransition s = .next t ∧ EndsOrContinues s t := by
  have hd : decode (guardsOf s) (txTsel s) = .instr i := by simpa [txTsel, decode_tselWord] using hrow
  exact ⟨t, by simp [txTransition, hd, hexec], hend⟩

theorem andThen_of_next {r : Res} {u : State} (h : r = .next u) {f : State → Res} : andThen r f = f u := by
  rw [h, andThen_next]

/-- From a context of the invariant the first-entry action completes, and leaves the attempts the guards read (R203). -/
theorem firstEntry_completes {s : State} (h : TxInv s) (hst : s.tx.state = .buildAndArm) :
    ∃ u, firstEntry s = .next u ∧ TxInv u ∧ u.tx.built = true ∧ u.tx.state = .buildAndArm ∧
      u.cfg.retryLimit = (guardsOf s).retryLimit ∧ u.tx.attempts = (guardsOf s).txAttempts := by
  by_cases hb : s.tx.built = true
  · exact ⟨s, firstEntry_built hb, h, hb, hst, rfl, by simp [guardsOf, hb]⟩
  · have hb : s.tx.built = false := by simpa using hb
    have hlen : s.tx.payload.length ≤ 255 := by have := h.plen; omega
    have he := firstEntry_unbuilt hb (encodeFrame_eq_some.mpr ⟨hlen, rfl⟩)
    exact ⟨_, he, h.firstEntry hst _ he, rfl, hst, rfl, by simp [guardsOf, hb]⟩

/-- A frame has at most 259 bytes (R71). -/
theorem TxInv.flen_le {s : State} (h : TxInv s) (hb : s.tx.built = true) : s.tx.flen.toNat ≤ 259 := by
  obtain ⟨bs, he, -, hflen⟩ := h.frame hb
  have := encodeFrame_length he
  have := (encodeFrame_eq_some.mp he).1
  omega

theorem buildAndArm_completes {s : State} (h : TxInv s) (hst : s.tx.state = .buildAndArm) :
    ∃ t, txTransition s = .next t ∧ EndsOrContinues s t := by
  obtain ⟨u, hu, hinv, hb, hst', hlim, hatt⟩ := firstEntry_completes h hst
  by_cases hlt : u.tx.attempts.toNat < u.cfg.retryLimit
  · refine txTransition_completes_by (i := .txBuildArm) (by simp [decodeTx, hst, ← hlim, ← hatt, hlt])
      ((if_pos hst).trans ((andThen_of_next hu).trans (if_pos hlt))) (.continues rfl ?_ ?_)
    · exact (hinv.armed hst' hb hlt).congr rfl rfl
    · simp [hst, TxState.chainRank]
  · exact txTransition_completes_by (i := .txBuildExhausted) (by simp [decodeTx, hst, ← hlim, ← hatt, hlt])
      ((if_pos hst).trans ((andThen_of_next hu).trans (if_pos (Nat.not_lt.mp hlt)))) (.ends .done rfl)

theorem sending_completes {s : State} (h : TxInv s) (hst : s.tx.state = .sending) :
    ∃ t, txTransition s = .next t ∧ EndsOrContinues s t := by
  have hcursor := h.sending hst
  have hflen := h.flen_le (h.built (by simp [hst]) (by simp [hst]))
  obtain ⟨u, hu⟩ : ∃ u, sendFrameByte s = .next u :=
    ⟨_, if_pos (Nat.lt_of_lt_of_le (BitVec.lt_def.mp hcursor) hflen)⟩
  by_cases hlt : s.tx.cursor + 1#9 < s.tx.flen
  · exact txTransition_completes_by (i := .txSend) (by simp [decodeTx, guardsOf, hst, hlt])
      ((if_pos ⟨hst, hlt⟩).trans (andThen_of_next hu)) (.ends .running rfl)
  · have heq : s.tx.cursor + 1#9 = s.tx.flen := by bv_omega
    exact txTransition_completes_by (i := .txSendLast) (by simp [decodeTx, guardsOf, hst, heq])
      ((if_pos ⟨hst, heq⟩).trans (andThen_of_next hu)) (.ends .running rfl)

theorem awaitResponse_completes {s : State} (h : TxInv s) (hst : s.tx.state = .awaitResponse) :
    ∃ t, txTransition s = .next t ∧ EndsOrContinues s t := by
  cases hpoll : poll s with
  | none =>
    by_cases hlt : elapsed s < s.cfg.timeout
    · exact txTransition_completes_by (i := .txAwaitWait) (by simp [decodeTx, guardsOf, hst, hpoll, hlt])
        (if_pos ⟨hst, hpoll, hlt⟩) (.ends .running rfl)
    · refine txTransition_completes_by (i := .txAwaitTimeout) (by simp [decodeTx, guardsOf, hst, hpoll, hlt])
        (if_pos ⟨hst, hpoll, Nat.not_lt.mp hlt⟩) (.continues rfl ?_ ?_)
      · exact (h.toBuildAndArm (.inr hst)).congr rfl rfl
      · simp [hst, TxState.chainRank]
  | some b =>
    by_cases hack : b = ack
    · exact txTransition_completes_by (i := .txAwaitAck) (by simp [decodeTx, hst, hpoll, hack])
        (if_pos ⟨hst, hack ▸ hpoll⟩) (.ends .done rfl)
    by_cases hnack : b = nack
    · exact txTransition_completes_by (i := .txAwaitNack) (by simp [decodeTx, hst, hpoll, hnack, ack, nack])
        (if_pos ⟨hst, hnack ▸ hpoll⟩) (.ends .running rfl)
    · exact txTransition_completes_by (i := .txAwaitStray b) (by simp [decodeTx, hst, hpoll, hack, hnack])
        (if_pos ⟨hst, hpoll, hack, hnack⟩) (.ends .running rfl)

/-- From every context of the invariant one transition completes (R117). -/
theorem txTransition_completes {s : State} (h : TxInv s) : ∃ t, txTransition s = .next t ∧ EndsOrContinues s t := by
  cases hst : s.tx.state with
  | init =>
    refine txTransition_completes_by (i := .txInit) (by simp [decodeTx, hst]) (if_pos hst) (.continues rfl ?_ ?_)
    · exact (h.toBuildAndArm (.inl hst)).congr rfl rfl
    · simp [hst, TxState.chainRank]
  | buildAndArm => exact buildAndArm_completes h hst
  | sending => exact sending_completes h hst
  | awaitResponse => exact awaitResponse_completes h hst
  | success =>
    exact txTransition_completes_by (i := .txTerminal .success) (by simp [decodeTx, hst]) (if_pos ⟨hst, rfl⟩)
      (.ends .done rfl)
  | retryExhausted =>
    exact txTransition_completes_by (i := .txTerminal .retryExhausted) (by simp [decodeTx, hst]) (if_pos ⟨hst, rfl⟩)
      (.ends .done rfl)
  | unused6 | unused7 => exact absurd h.legal (by simp [hst, TxState.isUnused])

/-- A chain longer than the state's rank completes with a TX result: three transitions are enough for a step (R201). -/
theorem txChain_completes {n : Nat} {s : State} (h : TxInv s) (hn : s.tx.state.chainRank < n) :
    ∃ t r, txChain n s = .next t ∧ t.result = .tx r := by
  induction n generalizing s with
  | zero => exact absurd hn (Nat.not_lt_zero _)
  | succ n ih =>
    obtain ⟨u, hu, ⟨r, hr⟩ | ⟨hr, hinv, hrank⟩⟩ := txTransition_completes h
    · exact ⟨u, r, by simp [txChain, hu, hr], hr⟩
    · obtain ⟨t, r, ht, htr⟩ := ih hinv (by omega)
      exact ⟨t, r, by simp [txChain, hu, hr, ht], htr⟩

/-! ### A round -/

theorem unlessRaised_next {s : State} (h : s.raised = false) (f : State → Res) : unlessRaised (.next s) f = f s := by
  simp [unlessRaised, h]

theorem rxTurn_completes {s : State} (h : s.Inv) (en : Bool) : ∃ t, rxTurn en s = .next t ∧ t.raised = false := by
  cases en with
  | false => exact ⟨_, rfl, rfl⟩
  | true =>
    obtain ⟨t, r, ht, hr⟩ := execRxStep_completes (h.receive s.cfg.topology.frames).insertionPoint.rx
      (received s.cfg.topology.frames s)
    exact ⟨t, ht, by simp [State.raised, hr]⟩

theorem txTurn_completes {s : State} (h : s.Inv) : ∃ t, txTurn s = .next t ∧ t.raised = false := by
  by_cases hlive : s.txLive = true
  · obtain ⟨t, r, ht, hr⟩ := txChain_completes h.tx s.tx.state.chainRank_lt
    exact ⟨t, (if_pos hlive).trans ht, by simp [State.raised, hr]⟩
  · exact ⟨_, if_neg hlive, rfl⟩

/-- Under the invariant a round completes and does not raise (R243). -/
theorem round_completes {s : State} (h : s.Inv) (en : Bool) : ∃ t, round en s = .next t ∧ t.raised = false := by
  obtain ⟨s1, h1, hr1⟩ := rxTurn_completes h.insertionPoint en
  have hs1 : s1.Inv := (Stepped.rxTurn en _ s1 h1).inv h.insertionPoint
  obtain ⟨s2, h2, hr2⟩ := txTurn_completes hs1.insertionPoint
  exact ⟨_, by rw [round, h1, unlessRaised_next hr1, h2, unlessRaised_next hr2], rfl⟩

/-- What a round that did not raise leaves under the invariant. -/
theorem round_healthy {en : Bool} {s t : State} (h : s.Inv) (ht : round en s = .next t) (hr : t.raised = false) :
    t.Inv ∧ t.txLive = s.txLive ∧ t.faulted = s.faulted ∧ t.iter = s.iter := by
  obtain ⟨hr', -⟩ | ⟨u, r, hu, rfl, -⟩ := round_cases en s t ht
  · simp [hr'] at hr
  · exact ⟨(inv_ret _ r).mpr (hu.inv h).tick, hu.harness.txLive, hu.harness.faulted h, hu.harness.iter⟩

end Sys2Proof.Machine
end

section
/-! SUPPORT. No operation of a round reads iter (R51): a round and the loop of a run answer the same from a state with
another iter, but for iter itself. This unrolls a run round by round (R246). -/

namespace Sys2Proof.Machine

/-- The state with iter mapped. -/
def State.mapIter (f : Nat → Nat) (s : State) : State := s.withIter (f s.iter)

@[simp] theorem State.mapIter_cfg (f : Nat → Nat) (s : State) : (s.mapIter f).cfg = s.cfg := rfl
@[simp] theorem State.mapIter_tx (f : Nat → Nat) (s : State) : (s.mapIter f).tx = s.tx := rfl
@[simp] theorem State.bytes_mapIter (f : Nat → Nat) (s : State) (k : Queue) : (s.mapIter f).bytes k = s.bytes k := rfl

/-- The answer with iter mapped in its next state. -/
def mapIterRes (f : Nat → Nat) (r : Res) : Res := andThen r fun t => .next (t.mapIter f)

variable (f : Nat → Nat)

section sequencing
variable {f}

theorem mapIterRes_ite {c : Prop} [Decidable c] {r r' q q' : Res} (h : r' = mapIterRes f r) (h' : q' = mapIterRes f q) :
    (if c then r' else q') = mapIterRes f (if c then r else q) := by
  split
  · exact h
  · exact h'

theorem mapIterRes_andThen {r r' : Res} {g : State → Res} (h : r' = mapIterRes f r)
    (hg : ∀ u, g (u.mapIter f) = mapIterRes f (g u)) : andThen r' g = mapIterRes f (andThen r g) := by
  subst h
  cases r with
  | next u => exact hg u
  | fault | refused => rfl

theorem mapIterRes_unlessRaised {r r' : Res} {g g' : State → Res} (h : r' = mapIterRes f r)
    (hg : ∀ u, g' (u.mapIter f) = mapIterRes f (g u)) : unlessRaised r' g' = mapIterRes f (unlessRaised r g) := by
  subst h
  cases r with
  | next u => exact mapIterRes_ite rfl (hg u)
  | fault | refused => rfl

end sequencing

/-! ### The queues -/

theorem afterSend_mapIter (k : Queue) (s : State) : (s.mapIter f).afterSend k = (s.afterSend k).mapIter f := by
  unfold State.afterSend
  rw [State.mapIter_cfg]
  cases s.cfg.env <;> rfl

theorem send_mapIter (k : Queue) (b : Byte) (s : State) : send k b (s.mapIter f) = (send k b s).mapIter f := by
  unfold send
  rw [afterSend_mapIter, State.mapIter_cfg, State.bytes_mapIter, show (s.mapIter f).sendAct k = s.sendAct k from rfl]
  split
  · rfl
  · cases s.sendAct k <;> rfl

theorem insertByte_mapIter (i : Queue × Byte) (s : State) :
    insertByte (s.mapIter f) i = (insertByte s i).mapIter f := by
  unfold insertByte
  rw [State.mapIter_cfg, State.bytes_mapIter]
  split <;> rfl

theorem insertionPoint_mapIter (s : State) : insertionPoint (s.mapIter f) = (insertionPoint s).mapIter f := by
  have fold (l : List (Queue × Byte)) (u : State) :
      l.foldl insertByte (u.mapIter f) = (l.foldl insertByte u).mapIter f := by
    induction l generalizing u with
    | nil => rfl
    | cons i l ih => rw [List.foldl_cons, insertByte_mapIter, ih, List.foldl_cons]
  cases he : s.cfg.env with
  | reliable => rw [insertionPoint_reliable he, insertionPoint_reliable (s := s.mapIter f) he]
  | lossy =>
    rw [insertionPoint_lossy he, insertionPoint_lossy (s := s.mapIter f) he]
    exact fold s.env.nextInsert (s.withEnv s.env.afterInsert)

/-! ### The engines -/

theorem deliver_mapIter (s : State) : deliver (s.mapIter f) = (deliver s).mapIter f := by
  unfold deliver
  rw [show ∀ r, (s.mapIter f).withRx r = (s.withRx r).mapIter f from fun _ => rfl, send_mapIter]
  rfl

theorem firstEntry_mapIter (s : State) : firstEntry (s.mapIter f) = mapIterRes f (firstEntry s) := by
  refine mapIterRes_ite rfl ?_
  rw [State.mapIter_tx]
  cases encodeFrame s.tx.payload <;> rfl

theorem sendFrameByte_mapIter (s : State) : sendFrameByte (s.mapIter f) = mapIterRes f (sendFrameByte s) := by
  refine mapIterRes_ite ?_ rfl
  dsimp only
  rw [State.mapIter_cfg, State.mapIter_tx, send_mapIter]
  rfl

/-- No transition reads iter. -/
theorem transition_mapIter {i : Instr} (hi : i.isTransition = true) (s : State) :
    exec i (s.mapIter f) = mapIterRes f (exec i s) := by
  cases i with
  | rxIdle => rfl
  | rxStart | rxStray | rxLenOversize | rxLenZero | rxLen | rxChkOk | rxChkBad | rxEndBad | rxIllegal
  | txInit | txAwaitTimeout | txAwaitAck | txAwaitNack | txAwaitStray | txAwaitWait | txTerminal | txIllegal =>
    exact mapIterRes_ite rfl rfl
  | rxPayload | rxPayloadLast => exact mapIterRes_ite (mapIterRes_ite rfl rfl) rfl
  | rxEndOk =>
    exact mapIterRes_ite (mapIterRes_ite (congrArg Host.Outcome.next (deliver_mapIter f s)) rfl) rfl
  | txBuildExhausted | txBuildArm =>
    exact mapIterRes_ite (mapIterRes_andThen (firstEntry_mapIter f s) fun _ => mapIterRes_ite rfl rfl) rfl
  | txSend | txSendLast => exact mapIterRes_ite (mapIterRes_andThen (sendFrameByte_mapIter f s) fun _ => rfl) rfl
  | codecChecksum | codecEncode | codecValidate | codecDecode | rxCreate | rxStep | txStart | txStep | txDestroy
  | harnessCreate | schedRound | schedRun | envInject | envDropNext => cases hi

theorem execRxStep_mapIter (input : Option Byte) (s : State) :
    execRxStep input (s.mapIter f) = mapIterRes f (execRxStep input s) := by
  unfold execRxStep
  rw [show guardsOf (s.mapIter f) = guardsOf s from rfl, show rxTsel input (s.mapIter f) = rxTsel input s from rfl]
  cases decode (guardsOf s) (rxTsel input s) with
  | instr i =>
    obtain ⟨hi, he⟩ | he := rxApply_cases i
    · simp only [he, transition_mapIter f hi]
    · simp only [he]; rfl
  | reserved | noRow => rfl

theorem txTransition_mapIter (s : State) : txTransition (s.mapIter f) = mapIterRes f (txTransition s) := by
  unfold txTransition
  rw [show guardsOf (s.mapIter f) = guardsOf s from rfl, show txTsel (s.mapIter f) = txTsel s from rfl]
  cases decode (guardsOf s) (txTsel s) with
  | instr i =>
    obtain ⟨hi, he⟩ | he := txApply_cases i
    · simp only [he, transition_mapIter f hi]
    · simp only [he]; rfl
  | reserved | noRow => rfl

theorem txChain_mapIter (n : Nat) (s : State) : txChain n (s.mapIter f) = mapIterRes f (txChain n s) := by
  induction n generalizing s with
  | zero => rfl
  | succ n ih => exact mapIterRes_andThen (txTransition_mapIter f s) fun u => mapIterRes_ite (ih u) rfl

/-! ### A round and a run -/

theorem rxTurn_mapIter (en : Bool) (s : State) : rxTurn en (s.mapIter f) = mapIterRes f (rxTurn en s) := by
  refine mapIterRes_ite ?_ rfl
  rw [State.mapIter_cfg, show ∀ k, receive k (s.mapIter f) = (receive k s).mapIter f from fun _ => rfl,
    insertionPoint_mapIter]
  exact execRxStep_mapIter f _ _

theorem txTurn_mapIter (s : State) : txTurn (s.mapIter f) = mapIterRes f (txTurn s) :=
  mapIterRes_ite (txChain_mapIter f 3 s) rfl

/-- A round does not read iter. -/
theorem round_mapIter (en : Bool) (s : State) : round en (s.mapIter f) = mapIterRes f (round en s) := by
  unfold round
  rw [insertionPoint_mapIter]
  refine mapIterRes_unlessRaised (rxTurn_mapIter f en _) fun u => ?_
  rw [insertionPoint_mapIter]
  refine mapIterRes_unlessRaised (txTurn_mapIter f _) fun v => ?_
  rw [insertionPoint_mapIter]
  rfl

/-- The loop of a run counts on from the iter it starts with. -/
theorem runLoop_mapIter_succ (n : Nat) (en : List Bool) (s : State) :
    runLoop n en (s.mapIter Nat.succ) = mapIterRes Nat.succ (runLoop n en s) := by
  induction n generalizing en s with
  | zero => rfl
  | succ n ih =>
    exact mapIterRes_ite rfl
      (mapIterRes_unlessRaised (round_mapIter _ _ s) fun u => ih en.tail (u.withIter (u.iter + 1)))

/-! ### SCHED_RUN -/

/-- On a terminal TX the loop runs no round (R246). -/
theorem runLoop_terminal {s : State} (h : s.tx.state.isTerminal = true) (n : Nat) (en : List Bool) :
    runLoop n en s = .next (s.ret .nothing) := by
  cases n with
  | zero => rfl
  | succ n => exact if_pos h

/-- On another TX the loop runs a round, and goes on after one that did not raise (R246). -/
theorem runLoop_round {s u : State} {en : List Bool} (h : s.tx.state.isTerminal = false)
    (hu : round (nextEnabled en) s = .next u) (hr : u.raised = false) (n : Nat) :
    runLoop (n + 1) en s = runLoop n en.tail (u.withIter (u.iter + 1)) := by
  rw [runLoop, if_neg (by simp [h]), hu, unlessRaised_next hr]

/-- Under the invariant the loop of a run completes without a raise: on a terminal TX, or with its budget used up
(R246). -/
theorem runLoop_completes (n : Nat) (en : List Bool) {s : State} (h : s.Inv) :
    ∃ t, runLoop n en s = .next t ∧ t.raised = false ∧ t.faulted = s.faulted ∧
      (t.tx.state.isTerminal = true ∧ t.iter ≤ s.iter + n ∨
        t.tx.state.isTerminal = false ∧ t.iter = s.iter + n) := by
  induction n generalizing en s with
  | zero =>
    refine ⟨s.ret .nothing, rfl, rfl, rfl, ?_⟩
    cases hterm : s.tx.state.isTerminal <;> simp [hterm]
  | succ n ih =>
    cases hterm : s.tx.state.isTerminal with
    | true => exact ⟨_, runLoop_terminal hterm _ en, rfl, rfl, .inl ⟨hterm, Nat.le_add_right _ _⟩⟩
    | false =>
      obtain ⟨u, hu, hr⟩ := round_completes h (nextEnabled en)
      obtain ⟨hinv, -, hfault, hiter⟩ := round_healthy h hu hr
      obtain ⟨t, ht, htr, htf, hend⟩ := ih en.tail ((inv_withIter u (u.iter + 1)).mpr hinv)
      refine ⟨t, (runLoop_round hterm hu hr n).trans ht, htr, htf.trans hfault, ?_⟩
      rw [State.withIter_iter, hiter, Nat.add_assoc, Nat.add_comm 1 n] at hend
      exact hend

/-- A run whose loop completes without a raise ends as R246 and R247 say. -/
theorem execSchedRun_of_runLoop {n : Nat} {en : List Bool} {s u : State} (hlive : s.txLive = true)
    (hu : runLoop n en (s.withIter 0) = .next u) (hr : u.raised = false) :
    execSchedRun n en s = .next (endRun u) := by
  rw [execSchedRun, if_pos hlive, hu, unlessRaised_next hr]

/-- The end of a run on a terminal TX (R246). -/
theorem endRun_terminal {s : State} (h : s.tx.state.isTerminal = true) :
    endRun s = { s with runStatus := .terminal, result := .run .terminal s.iter } := if_pos h

/-- The end of a run on an exhausted budget (R246, R247). -/
theorem endRun_exhausted {s : State} (h : s.tx.state.isTerminal = false) :
    endRun s = { s with runStatus := .budgetExhausted, faulted := true
                        history := s.history ++ [.harnessFault .budgetExhausted]
                        result := .run .budgetExhausted s.iter } := if_neg (by simp [h])

/-- The end of a run one round longer: only iter differs. -/
theorem endRun_mapIter_succ (s : State) : endRun (s.mapIter Nat.succ) =
    { endRun s with iter := (endRun s).iter + 1, result := .run (endRun s).runStatus ((endRun s).iter + 1) } := by
  cases hterm : s.tx.state.isTerminal with
  | true => rw [endRun_terminal (s := s) hterm, endRun_terminal (s := s.mapIter Nat.succ) hterm]; rfl
  | false => rw [endRun_exhausted (s := s) hterm, endRun_exhausted (s := s.mapIter Nat.succ) hterm]; rfl

/-- Settles O47: the loop completes by induction over the budget, and a run unrolls because no round reads iter. -/
theorem runEndsTerminalOrExhausted : Obligations.RunEndsTerminalOrExhausted := by
  unfold Obligations.RunEndsTerminalOrExhausted
  intro n en s
  refine ⟨fun h hlive => ?ends, fun h hlive hterm => ?unrolls, fun hlive hterm => ?noRound,
    fun hlive hterm => ?noBudget, fun hlive => if_neg (by simp [hlive])⟩
  case ends =>
    obtain ⟨u, hu, hr, hfault, hend⟩ := runLoop_completes n en ((inv_withIter s 0).mpr h)
    refine ⟨endRun u, execSchedRun_of_runLoop hlive hu hr, ?_⟩
    obtain ⟨hterm, hiter⟩ | ⟨hterm, hiter⟩ := hend
    · rw [endRun_terminal hterm]
      exact ⟨rfl, .inl ⟨hterm, rfl, by simpa using hiter, hfault⟩⟩
    · rw [endRun_exhausted hterm]
      exact ⟨rfl, .inr ⟨hterm, rfl, by simpa using hiter, rfl, _, rfl⟩⟩
  case unrolls =>
    obtain ⟨u, hu, hr⟩ := round_completes h (nextEnabled en)
    obtain ⟨hinv, hlive', -, -⟩ := round_healthy h hu hr
    obtain ⟨v, hv, hvr, -, -⟩ := runLoop_completes n en.tail ((inv_withIter u 0).mpr hinv)
    refine ⟨u, endRun v, hu, execSchedRun_of_runLoop (hlive'.trans hlive) hv hvr, ?_⟩
    have hround : round (nextEnabled en) (s.withIter 0) = .next (u.withIter 0) :=
      (round_mapIter (fun _ => 0) _ s).trans (congrArg (mapIterRes fun _ => 0) hu)
    have hloop : runLoop (n + 1) en (s.withIter 0) = .next (v.mapIter Nat.succ) :=
      calc runLoop (n + 1) en (s.withIter 0)
          = runLoop n en.tail ((u.withIter 0).mapIter Nat.succ) := runLoop_round (s := s.withIter 0) hterm hround hr n
        _ = mapIterRes Nat.succ (runLoop n en.tail (u.withIter 0)) := runLoop_mapIter_succ n _ _
        _ = .next (v.mapIter Nat.succ) := by rw [hv]; rfl
    rw [← endRun_mapIter_succ]
    exact execSchedRun_of_runLoop hlive hloop hvr
  case noRound =>
    have hloop := runLoop_terminal (s := s.withIter 0) hterm n en
    exact (execSchedRun_of_runLoop hlive hloop rfl).trans (congrArg Host.Outcome.next (endRun_terminal hterm))
  case noBudget =>
    have hloop : runLoop 0 en (s.withIter 0) = .next ((s.withIter 0).ret .nothing) := rfl
    exact (execSchedRun_of_runLoop hlive hloop rfl).trans (congrArg Host.Outcome.next (endRun_exhausted hterm))

end Sys2Proof.Machine
end

section
/-! SUPPORT. Send and Receive on one queue of the Channel (R75, R76, R78), and a LOSSY environment's part in a Send (R82). -/

namespace Sys2Proof.Machine

/-! ### What the environment does to a Send, and what the Send uses up -/

section environment
variable {s : State} {k : Queue}

theorem State.sendAct_pending (hl : s.cfg.env = .lossy) (hd : (s.chan.fifo k).dropNext = true) :
    s.sendAct k = .drop := by
  simp [State.sendAct, hl, hd]

theorem State.sendAct_draw (hl : s.cfg.env = .lossy) (hd : (s.chan.fifo k).dropNext = false) :
    s.sendAct k = s.env.nextSend := by
  simp [State.sendAct, hl, hd]

theorem State.afterSend_reliable (hr : s.cfg.env = .reliable) (k : Queue) : s.afterSend k = s := by
  simp [State.afterSend, hr]

theorem State.afterSend_lossy (hl : s.cfg.env = .lossy) (k : Queue) :
    s.afterSend k = (s.withDropNext k false).withEnv s.env.afterSend := by
  simp [State.afterSend, hl]

theorem State.afterSend_fifo_other (s : State) {k j : Queue} (hj : j ≠ k) :
    (s.afterSend k).chan.fifo j = s.chan.fifo j := by
  cases he : s.cfg.env with
  | reliable => rw [State.afterSend_reliable he]
  | lossy =>
    rw [State.afterSend_lossy he]
    exact Channel.fifo_withFifo_other _ _ hj

theorem State.afterSend_dropNext (hl : s.cfg.env = .lossy) (k : Queue) :
    ((s.afterSend k).chan.fifo k).dropNext = false := by
  simp [State.afterSend_lossy hl, State.withDropNext]

end environment

/-! ### Send, by what the environment does to it -/

section send
variable {s : State} {k : Queue}

theorem send_full (hfull : s.cfg.capacity ≤ (s.bytes k).length) (b : Byte) :
    send k b s = (s.afterSend k).emit (.drop k b) := if_pos hfull

theorem send_pass (hroom : (s.bytes k).length < s.cfg.capacity) (ha : s.sendAct k = .pass) (b : Byte) :
    send k b s = (s.afterSend k).withBytes k (s.bytes k ++ [b]) := by
  simp [send, Nat.not_le.mpr hroom, ha]

theorem send_drop (hroom : (s.bytes k).length < s.cfg.capacity) (ha : s.sendAct k = .drop) (b : Byte) :
    send k b s = s.afterSend k := by
  simp [send, Nat.not_le.mpr hroom, ha]

theorem send_corrupt {c : Byte} (hroom : (s.bytes k).length < s.cfg.capacity) (ha : s.sendAct k = .corrupt c)
    (b : Byte) : send k b s = (s.afterSend k).withBytes k (s.bytes k ++ [c]) := by
  simp [send, Nat.not_le.mpr hroom, ha]

/-- A Send leaves every other queue alone, with a DROPNEXT that waits on it. -/
theorem send_fifo_other (b : Byte) (s : State) {k j : Queue} (hj : j ≠ k) :
    (send k b s).chan.fifo j = s.chan.fifo j := by
  rcases send_cases k b s with ⟨-, h⟩ | ⟨-, -, h⟩ | ⟨c, -, -, h⟩ <;> rw [h]
  · exact s.afterSend_fifo_other hj
  · exact s.afterSend_fifo_other hj
  · exact (State.withBytes_fifo_other _ hj _).trans (s.afterSend_fifo_other hj)

/-- Whatever a Send does with its byte, its environment and its DROPNEXT are those `afterSend` leaves. -/
theorem send_uses_up (k : Queue) (b : Byte) (s : State) :
    (send k b s).env = (s.afterSend k).env ∧
      ((send k b s).chan.fifo k).dropNext = ((s.afterSend k).chan.fifo k).dropNext := by
  rcases send_cases k b s with ⟨-, h⟩ | ⟨-, -, h⟩ | ⟨c, -, -, h⟩ <;> simp [h]

/-- A Send changes the queues, the event history and the environment's draws, nothing else. -/
theorem send_frame (k : Queue) (b : Byte) (s : State) : send k b s =
    { s with chan := (send k b s).chan, history := (send k b s).history, env := (s.afterSend k).env } := by
  apply State.eq_of_fields <;> simp [send_uses_up]

end send

/-- Settles O52: with room the Send is the one that the pending DROPNEXT or the next draw selects, on a full queue
`send_full`, and both use up what `afterSend` does. -/
theorem lossyEnvironmentActsOnASend : Obligations.LossyEnvironmentActsOnASend := by
  unfold Obligations.LossyEnvironmentActsOnASend
  intro k b s hl
  obtain ⟨-, hmark⟩ := send_uses_up k b s
  refine ⟨fun hroom => ⟨?noEvent, ?acts⟩, fun hfull => by simp [send_full hfull],
    hmark.trans (State.afterSend_dropNext hl k), fun j => send_fifo_other b s, ?rest, ?listed, ?steady, ?free⟩
  case noEvent => simp [send_history, hroom]
  case acts =>
    cases hd : (s.chan.fifo k).dropNext with
    | true => simp [send_drop hroom (State.sendAct_pending hl hd)]
    | false =>
      have hact := State.sendAct_draw hl hd
      cases ha : s.env.nextSend with
      | pass => simp [send_pass hroom (hact.trans ha)]
      | drop => simp [send_drop hroom (hact.trans ha)]
      | corrupt c => simp [send_corrupt hroom (hact.trans ha)]
  case rest =>
    have hdraws : (s.afterSend k).env = s.env.afterSend := by simp [State.afterSend_lossy hl]
    rw [← hdraws]
    exact send_frame k b s
  case listed => intro act rest h; simp [Environment.nextSend, Environment.afterSend, h]
  case steady => intro act l h he; simp [Environment.nextSend, Environment.afterSend, h, he]
  case free => intro n h he; simp [Environment.nextSend, Environment.afterSend, h, he]

/-- Settles O50: under RELIABLE a Send with room is the append of `send_reliable`, and `afterSend` uses up nothing. -/
theorem sendAppendsOrDrops : Obligations.SendAppendsOrDrops := by
  unfold Obligations.SendAppendsOrDrops
  refine fun k b s hr => ⟨fun hroom => ⟨?appended, fun j hj => send_bytes_other k b s hj, ?rest⟩, fun hfull => ?dropped⟩
  case appended => simp [send_reliable hr hroom]
  case rest => rw [send_reliable hr hroom]; rfl
  case dropped => rw [send_full hfull, State.afterSend_reliable hr]; rfl

/-! ### Receive -/

/-- Replacing a queue's bytes by themselves changes nothing. -/
theorem State.withBytes_self (s : State) (k : Queue) : s.withBytes k (s.bytes k) = s := by cases k <;> rfl

theorem receive_empty {s : State} {k : Queue} (h : s.bytes k = []) : receive k s = s := by
  calc s.withBytes k (s.bytes k).tail
      = s.withBytes k (s.bytes k) := by rw [h, List.tail_nil]
    _ = s := s.withBytes_self k

/-- Settles O51: Receive is the head of the queue and replaces its bytes by their tail. -/
theorem receiveTakesTheOldestByte : Obligations.ReceiveTakesTheOldestByte := by
  unfold Obligations.ReceiveTakesTheOldestByte
  refine fun k s => ⟨fun hnil => ⟨by simp [received, hnil], receive_empty hnil⟩, fun b rest hcons =>
    ⟨by simp [received, hcons], by simp [hcons], receive_dropNext k s k, fun j => receive_fifo_other k s, rfl⟩⟩

end Sys2Proof.Machine
end

section
/-! SUPPORT. The fields of a selector word (R115), the masks of the transition map field by field, and what each half of
the map selects (R117, R118). -/

namespace Sys2Proof

/-! ### Words and their fields -/

theorem getLsbD_eq_of_extractLsb'_eq {w w' : Tsel} {lo n i : Nat} (h : w.extractLsb' lo n = w'.extractLsb' lo n)
    (hlo : lo ≤ i) (hi : i < lo + n) : w.getLsbD i = w'.getLsbD i := by
  have hbit := congrArg (BitVec.getLsbD · (i - lo)) h
  have hn : i - lo < n := by omega
  simpa [hn, Nat.add_sub_cancel' hlo] using hbit

/-- The five fields make up the word (R115). -/
theorem tsel_ext {w w' : Tsel} (hU : tselU w = tselU w') (hS : tselS w = tselS w')
    (hR : tselReserved w = tselReserved w') (hV : tselV w = tselV w') (hB : tselB w = tselB w') : w = w' := by
  apply BitVec.eq_of_getLsbD_eq
  intro i hi
  have field : i < 8 ∨ i = 8 ∨ 9 ≤ i ∧ i < 12 ∨ 12 ≤ i ∧ i < 15 ∨ i = 15 := by omega
  obtain h | rfl | ⟨h, h'⟩ | ⟨h, h'⟩ | rfl := field
  · exact getLsbD_eq_of_extractLsb'_eq hB (Nat.zero_le i) h
  · exact hV
  · exact getLsbD_eq_of_extractLsb'_eq hR h h'
  · exact getLsbD_eq_of_extractLsb'_eq hS h h'
  · exact hU

/-- `(TSEL & mask) == match`, field by field (R117). -/
theorem and_eq_iff_fields (w m p : Tsel) : w &&& m = p ↔
    (tselU w && tselU m) = tselU p ∧ tselS w &&& tselS m = tselS p ∧ tselReserved w &&& tselReserved m = tselReserved p
      ∧ (tselV w && tselV m) = tselV p ∧ tselB w &&& tselB m = tselB p := by
  have hU : tselU (w &&& m) = (tselU w && tselU m) := BitVec.getLsbD_and
  have hV : tselV (w &&& m) = (tselV w && tselV m) := BitVec.getLsbD_and
  have hS : tselS (w &&& m) = tselS w &&& tselS m := BitVec.extractLsb'_and
  have hR : tselReserved (w &&& m) = tselReserved w &&& tselReserved m := BitVec.extractLsb'_and
  have hB : tselB (w &&& m) = tselB w &&& tselB m := BitVec.extractLsb'_and
  rw [← hU, ← hS, ← hR, ← hV, ← hB]
  exact ⟨fun h => h ▸ ⟨rfl, rfl, rfl, rfl, rfl⟩, fun ⟨u, s, r, v, b⟩ => tsel_ext u s r v b⟩

/-- A word that a step can form is made from its fields (R115, R116). -/
theorem tselWord_fields {w : Tsel} (h : tselFormed w = true) :
    tselWord (tselU w) (tselS w) (if tselV w then some (tselB w) else none) = w := by
  simp only [tselFormed, Bool.and_eq_true, Bool.or_eq_true, beq_iff_eq] at h
  obtain ⟨⟨hR, hB⟩, -⟩ := h
  cases hV : tselV w with
  | true => exact tsel_ext (by simp) (by simp) (by simp [hR]) (by simp [hV]) (by simp)
  | false =>
    have hzero : tselB w = 0#8 := hB.resolve_left (by simp [hV])
    exact tsel_ext (by simp) (by simp) (by simp [hR]) (by simp [hV]) (by simp [hzero])

/-! ### The rows of the map -/

theorem Row.hits_iff (r : Row) (g : Guards) (w : Tsel) :
    r.hits g w = true ↔ w &&& r.mask = r.pattern ∧ r.guard g w = true := by simp [Row.hits]

/-- Row selection with two rows told apart by a guard. -/
theorem ite_eq_instr {c : Prop} [Decidable c] {a i : Instr} {d : Decoded} :
    (if c then .instr a else d) = .instr i ↔ c ∧ a = i ∨ ¬ c ∧ d = .instr i := by
  split <;> simp [*]

/-- The RX rows of R118 select what `decodeRx` answers. -/
theorem rxRows_select {g : Guards} {w : Tsel} {i : Instr} (hU : tselU w = false) :
    (∃ r ∈ rxRows, r.hits g w = true ∧ r.build w = i) ↔
      decodeRx g (RxState.ofCode (tselS w)) (tselV w) (tselB w) = .instr i := by
  obtain ⟨c, hS⟩ : ∃ c : RxState, tselS w = c.code := ⟨.ofCode (tselS w), by simp⟩
  have hmask : tselB w &&& 255#8 = tselB w := BitVec.and_allOnes
  simp only [rxRows, List.mem_cons, List.not_mem_nil, or_false, exists_eq_or_imp, exists_eq_left, Row.hits_iff,
    and_eq_iff_fields, hU, hS, RxState.ofCode_code]
  generalize tselV w = v, tselB w = b, tselReserved w = k at *
  cases v with
  | false => cases c <;> simp [tselU, tselS, tselReserved, tselV, tselB, RxState.code, decodeRx]
  | true =>
    cases c <;> simp [tselU, tselS, tselReserved, tselV, tselB, RxState.code, decodeRx, ite_eq_instr, hmask]
    case readLength =>
      have hzero : b = 0#8 ↔ b.toNat = 0 := BitVec.toNat_inj.symm
      grind
    case readPayload =>
      have hne (h : g.rxWcur + 1#8 = g.rxLen) : ¬ g.rxWcur + 1#8 < g.rxLen := h ▸ BitVec.lt_irrefl _
      grind

/-- The TX rows of R118 select what `decodeTx` answers. -/
theorem txRows_select {g : Guards} {w : Tsel} {i : Instr} (hU : tselU w = true) :
    (∃ r ∈ txRows, r.hits g w = true ∧ r.build w = i) ↔
      decodeTx g (TxState.ofCode (tselS w)) (tselV w) (tselB w) = .instr i := by
  obtain ⟨c, hS⟩ : ∃ c : TxState, tselS w = c.code := ⟨.ofCode (tselS w), by simp⟩
  have hmask : tselB w &&& 255#8 = tselB w := BitVec.and_allOnes
  simp only [txRows, List.mem_cons, List.not_mem_nil, or_false, exists_eq_or_imp, exists_eq_left, Row.hits_iff,
    and_eq_iff_fields, hU, hS, TxState.ofCode_code]
  generalize tselV w = v, tselB w = b, tselReserved w = k at *
  cases c <;> simp [tselU, tselS, tselReserved, tselV, tselB, TxState.code, decodeTx, ite_eq_instr, hmask]
  case buildAndArm => exact or_comm
  case sending =>
    have hlast (h : g.txCursor + 1#9 = g.txFlen) : g.txFlen ≤ g.txCursor + 1#9 := h ▸ BitVec.le_refl _
    grind
  case awaitResponse =>
    have hdiffer : nack ≠ ack := by decide
    cases v with
    | false => simp [ite_eq_instr, or_comm]
    | true => simp [ite_eq_instr]; grind

/-- Every mask looks at U, so a row matches words of its own unit alone (R118). -/
theorem Row.unit_of_hits {r : Row} {g : Guards} {w : Tsel} (hm : tselU r.mask = true) (h : r.hits g w = true) :
    tselU w = tselU r.pattern := by
  obtain ⟨hmask, -⟩ := (r.hits_iff g w).mp h
  obtain ⟨hU, -⟩ := (and_eq_iff_fields ..).mp hmask
  simpa [hm] using hU

theorem rxRows_unit : ∀ r ∈ rxRows, tselU r.mask = true ∧ tselU r.pattern = false := by decide

theorem txRows_unit : ∀ r ∈ txRows, tselU r.mask = true ∧ tselU r.pattern = true := by decide

/-- Settles O4: the word's U leaves one half of the map, and `decode` answers what that half selects. -/
theorem decodeSelectsTheMatchingRow : Obligations.DecodeSelectsTheMatchingRow := by
  unfold Obligations.DecodeSelectsTheMatchingRow
  intro g w i
  have decode_formed (hR : tselReserved w = 0#3) : decode g w = .instr i ↔
      ∃ r ∈ transitionMap, r.hits g w = true ∧ r.build w = i := by
    simp only [transitionMap, List.mem_append, or_and_right, exists_or]
    cases hU : tselU w with
    | false =>
      have noTx : ¬ ∃ r ∈ txRows, r.hits g w = true ∧ r.build w = i := by
        rintro ⟨r, hr, hhit, -⟩
        obtain ⟨hm, hp⟩ := txRows_unit r hr
        simp [Row.unit_of_hits hm hhit, hp] at hU
      rw [rxRows_select hU, or_iff_left noTx, decode, if_pos hR, hU]
      rfl
    | true =>
      have noRx : ¬ ∃ r ∈ rxRows, r.hits g w = true ∧ r.build w = i := by
        rintro ⟨r, hr, hhit, -⟩
        obtain ⟨hm, hp⟩ := rxRows_unit r hr
        simp [Row.unit_of_hits hm hhit, hp] at hU
      rw [txRows_select hU, or_iff_right noRx, decode, if_pos hR, hU]
      rfl
  by_cases hR : tselReserved w = 0#3
  · rw [decode_formed hR, and_iff_right hR]
  · simp [decode, hR]

end Sys2Proof
end

section
/-! SUPPORT. The decoder and the encoder undo each other (R115 to R118), and what the reserved bits do (R119). -/

namespace Sys2Proof

/-! ### Decoding a word made from its parts -/

theorem decode_rxWord (g : Guards) (c : RxState) (input : Option Byte) :
    decode g (tselWord false c.code input) = decodeRx g c input.isSome (input.getD 0#8) := by simp [decode_tselWord]

theorem decode_txWord (g : Guards) (c : TxState) (input : Option Byte) :
    decode g (tselWord true c.code input) = decodeTx g c input.isSome (input.getD 0#8) := by simp [decode_tselWord]

/-- The word of an RX row decodes to what the row answers for its state and input. -/
theorem decode_of_rxRow {g : Guards} {i : Instr} {w : Tsel} (c : RxState) (input : Option Byte)
    (hw : some (tselWord false c.code input) = some w)
    (hrow : decodeRx g c input.isSome (input.getD 0#8) = .instr i) : decode g w = .instr i := by
  cases hw
  rw [decode_rxWord, hrow]

/-- The word of a TX row decodes to what the row answers for its state and poll. -/
theorem decode_of_txRow {g : Guards} {i : Instr} {w : Tsel} (c : TxState) (input : Option Byte)
    (hw : some (tselWord true c.code input) = some w)
    (hrow : decodeTx g c input.isSome (input.getD 0#8) = .instr i) : decode g w = .instr i := by
  cases hw
  rw [decode_txWord, hrow]

theorem decodeRx_unused (g : Guards) {c : RxState} (hc : c.isUnused = true) (b : Byte) :
    decodeRx g c true b = .instr (.rxIllegal c b) := by
  cases c with
  | unused5 | unused6 | unused7 => rfl
  | awaitStart | readLength | readPayload | readChecksum | readEnd => cases hc

theorem decodeTx_terminal (g : Guards) {c : TxState} (hc : c.isTerminal = true) (v : Bool) (b : Byte) :
    decodeTx g c v b = .instr (.txTerminal c) := by
  cases c with
  | success | retryExhausted => rfl
  | init | buildAndArm | sending | awaitResponse | unused6 | unused7 => cases hc

theorem decodeTx_unused (g : Guards) {c : TxState} (hc : c.isUnused = true) (v : Bool) (b : Byte) :
    decodeTx g c v b = .instr (.txIllegal c) := by
  cases c with
  | unused6 | unused7 => rfl
  | init | buildAndArm | sending | awaitResponse | success | retryExhausted => cases hc

/-- Decode of encode, row by row: the guard that admits a transition is the test by which `decode` selects it
(R117, R118). -/
theorem decode_encode {g : Guards} {i : Instr} {w : Tsel} (hwf : i.wf = true) (hadm : i.admitted g = true)
    (hw : encode i = some w) : decode g w = .instr i := by
  cases i with
  | rxIdle c => exact decode_of_rxRow c none hw rfl
  | rxStart => exact decode_of_rxRow .awaitStart (some stx) hw rfl
  | rxStray b => exact decode_of_rxRow .awaitStart (some b) hw ((if_pos rfl).trans (if_neg (bne_iff_ne.mp hwf)))
  | rxLenOversize b =>
    have hmax : g.maxPayload < b.toNat := of_decide_eq_true hadm
    exact decode_of_rxRow .readLength (some b) hw ((if_pos rfl).trans (if_pos hmax))
  | rxLenZero => exact decode_of_rxRow .readLength (some 0#8) hw rfl
  | rxLen b =>
    have hmax : ¬ g.maxPayload < b.toNat := Nat.not_lt.mpr (of_decide_eq_true hadm)
    have hzero : b ≠ 0#8 := bne_iff_ne.mp hwf
    exact decode_of_rxRow .readLength (some b) hw ((if_pos rfl).trans ((if_neg hmax).trans (if_neg hzero)))
  | rxPayload b => exact decode_of_rxRow .readPayload (some b) hw ((if_pos rfl).trans (if_pos (of_decide_eq_true hadm)))
  | rxPayloadLast b =>
    have hlast : g.rxWcur + 1#8 = g.rxLen := eq_of_beq hadm
    exact decode_of_rxRow .readPayload (some b) hw (by simp [decodeRx, hlast])
  | rxChkOk b => exact decode_of_rxRow .readChecksum (some b) hw ((if_pos rfl).trans (if_pos (eq_of_beq hadm)))
  | rxChkBad b => exact decode_of_rxRow .readChecksum (some b) hw ((if_pos rfl).trans (if_neg (bne_iff_ne.mp hadm)))
  | rxEndOk => exact decode_of_rxRow .readEnd (some etx) hw rfl
  | rxEndBad b => exact decode_of_rxRow .readEnd (some b) hw ((if_pos rfl).trans (if_neg (bne_iff_ne.mp hwf)))
  | rxIllegal c b => exact decode_of_rxRow c (some b) hw (decodeRx_unused g hwf b)
  | txInit => exact decode_of_txRow .init none hw rfl
  | txBuildExhausted => exact decode_of_txRow .buildAndArm none hw (if_neg (Nat.not_lt.mpr (of_decide_eq_true hadm)))
  | txBuildArm => exact decode_of_txRow .buildAndArm none hw (if_pos (of_decide_eq_true hadm))
  | txSend => exact decode_of_txRow .sending none hw (if_pos (of_decide_eq_true hadm))
  | txSendLast =>
    have hlast : g.txCursor + 1#9 = g.txFlen := eq_of_beq hadm
    exact decode_of_txRow .sending none hw (by simp [decodeTx, hlast])
  | txAwaitAck => exact decode_of_txRow .awaitResponse (some ack) hw rfl
  | txAwaitNack => exact decode_of_txRow .awaitResponse (some nack) hw rfl
  | txAwaitStray b =>
    obtain ⟨hack, hnack⟩ : b ≠ ack ∧ b ≠ nack := by simpa [Instr.wf] using hwf
    exact decode_of_txRow .awaitResponse (some b) hw ((if_neg hack).trans (if_neg hnack))
  | txAwaitTimeout => exact decode_of_txRow .awaitResponse none hw (if_neg (Nat.not_lt.mpr (of_decide_eq_true hadm)))
  | txAwaitWait => exact decode_of_txRow .awaitResponse none hw (if_pos (of_decide_eq_true hadm))
  | txTerminal c => exact decode_of_txRow c none hw (decodeTx_terminal g hwf _ _)
  | txIllegal c => exact decode_of_txRow c none hw (decodeTx_unused g hwf _ _)
  | codecChecksum | codecEncode | codecValidate | codecDecode | rxCreate | rxStep | txStart | txStep | txDestroy
  | harnessCreate | schedRound | schedRun | envInject | envDropNext => cases hw

/-- Settles O2: the round trip of every row. -/
theorem decodeOfEncodeIsTheTransition : Obligations.DecodeOfEncodeIsTheTransition := by
  unfold Obligations.DecodeOfEncodeIsTheTransition
  intro g i w
  exact decode_encode

/-- Settles O1: each word is the encoding of the transition named, under a guard that admits it. -/
theorem knownSelectorWordsDecode : Obligations.KnownSelectorWordsDecode := by
  unfold Obligations.KnownSelectorWordsDecode
  refine ⟨fun g => ⟨?_, ?_, ?_, ?_, ?_, ?_, ?_, ?_⟩, fun g => decode_encode rfl rfl rfl,
    fun g h => decode_encode rfl (decide_eq_true h) rfl, fun g h => decode_encode rfl (decide_eq_true h) rfl,
    fun g h => ⟨decode_encode rfl (decide_eq_true h) rfl, decode_encode rfl (decide_eq_true h) rfl⟩,
    fun g h => decode_encode rfl (beq_iff_eq.mpr h) rfl, fun g h => decode_encode rfl (beq_iff_eq.mpr h.symm) rfl,
    fun g h => decode_encode rfl (bne_iff_ne.mpr h.symm) rfl,
    fun g h => decode_encode rfl (decide_eq_true h) rfl, fun g h => decode_encode rfl (decide_eq_true h) rfl,
    fun g h => decode_encode rfl (decide_eq_true h) rfl, fun g h => decode_encode rfl (beq_iff_eq.mpr h) rfl,
    fun g h => decode_encode rfl (decide_eq_true h) rfl, fun g h => decode_encode rfl (decide_eq_true h) rfl⟩
  all_goals exact decode_encode rfl rfl rfl

/-! ### Encoding what was decoded -/

/-- The transition an RX row answers has the word of the row's state and input (R115, R118). -/
theorem encode_of_decodeRx {g : Guards} {c : RxState} {v : Bool} {b : Byte} {i : Instr}
    (h : decodeRx g c v b = .instr i) : encode i = some (tselWord false c.code (if v then some b else none)) := by
  cases v with
  | false => cases h; rfl
  | true =>
    cases c <;> simp only [decodeRx, if_true] at h
    case awaitStart =>
      split at h
      · next hb => cases h; rw [hb]; rfl
      · cases h; rfl
    case readLength =>
      split at h
      · cases h; rfl
      split at h
      · next hb => cases h; rw [hb]; rfl
      · cases h; rfl
    case readPayload =>
      split at h
      · cases h; rfl
      split at h <;> cases h
      rfl
    case readChecksum => split at h <;> cases h <;> rfl
    case readEnd =>
      split at h
      · next hb => cases h; rw [hb]; rfl
      · cases h; rfl
    case unused5 | unused6 | unused7 => cases h; rfl

/-- The transition a TX row answers has the word of the row's state and poll; only AWAIT_RESPONSE polls (R116, R118). -/
theorem encode_of_decodeTx {g : Guards} {c : TxState} {v : Bool} {b : Byte} {i : Instr}
    (hpoll : c = .awaitResponse ∨ v = false) (h : decodeTx g c v b = .instr i) :
    encode i = some (tselWord true c.code (if v then some b else none)) := by
  by_cases hc : c = .awaitResponse
  · subst hc
    cases v with
    | false => simp only [decodeTx, Bool.false_eq_true, if_false] at h; split at h <;> cases h <;> rfl
    | true =>
      simp only [decodeTx, if_true] at h
      split at h
      · next hb => cases h; rw [hb]; rfl
      split at h
      · next hb => cases h; rw [hb]; rfl
      · cases h; rfl
  · obtain rfl : v = false := hpoll.resolve_left hc
    cases c <;> simp only [decodeTx] at h
    case init | success | retryExhausted | unused6 | unused7 => cases h; rfl
    case buildAndArm => split at h <;> cases h <;> rfl
    case sending =>
      split at h
      · cases h; rfl
      split at h <;> cases h
      rfl
    case awaitResponse => exact absurd rfl hc

/-- Settles O3: a formed word is made from its fields, and so is the word of the transition it selects. -/
theorem encodeOfDecodeIsTheFormedWord : Obligations.EncodeOfDecodeIsTheFormedWord := by
  unfold Obligations.EncodeOfDecodeIsTheFormedWord
  intro g w i hform h
  have hfields := tselWord_fields hform
  simp only [tselFormed, Bool.and_eq_true, Bool.or_eq_true, beq_iff_eq, Bool.not_eq_true'] at hform
  obtain ⟨⟨hR, -⟩, hunit⟩ := hform
  rw [decode, if_pos hR] at h
  cases hU : tselU w with
  | false =>
    rw [hU] at h hfields
    rw [encode_of_decodeRx h, RxState.code_ofCode, hfields]
  | true =>
    rw [hU] at h hfields hunit
    have hpoll : TxState.ofCode (tselS w) = .awaitResponse ∨ tselV w = false := by
      obtain (hfalse | hS) | hV := hunit
      · cases hfalse
      · exact .inl (by rw [hS]; rfl)
      · exact .inr hV
    rw [encode_of_decodeTx hpoll h, TxState.code_ofCode, hfields]

/-! ### The reserved bits -/

theorem decodeRx_ne_reserved (g : Guards) (c : RxState) (v : Bool) (b : Byte) : decodeRx g c v b ≠ .reserved := by
  unfold decodeRx
  repeat' split
  all_goals nofun

theorem decodeTx_ne_reserved (g : Guards) (c : TxState) (v : Bool) (b : Byte) : decodeTx g c v b ≠ .reserved := by
  unfold decodeTx
  repeat' split
  all_goals nofun

/-- Settles O6: no row answers the rejection, so it comes from the test of the reserved bits alone. -/
theorem reservedBitsSelectNothing : Obligations.ReservedBitsSelectNothing := by
  unfold Obligations.ReservedBitsSelectNothing
  intro g w
  by_cases hR : tselReserved w = 0#3
  · refine iff_of_false ?_ (fun h => h hR)
    rw [decode, if_pos hR]
    split
    · exact decodeTx_ne_reserved g _ _ _
    · exact decodeRx_ne_reserved g _ _ _
  · simp [decode, hR]

end Sys2Proof
end

section
/-! SUPPORT. The engines and the program by their selector words: one row matches the word an engine forms (R117), and a
step runs what its word selects (R124, R161). -/

namespace Sys2Proof

/-- The rows build transitions of different mnemonics. -/
theorem transitionMap_mnemonics (w : Tsel) :
    transitionMap.map (fun r => (r.build w).ctorIdx) = List.range 25 := rfl

/-- At most one row matches: the rows that match build the one transition the word decodes to (R117). -/
theorem hits_length_le_one (g : Guards) (w : Tsel) (hR : tselReserved w = 0#3) :
    (transitionMap.filter (·.hits g w)).length ≤ 1 := by
  have distinct : transitionMap.Pairwise (fun r r' => r.build w ≠ r'.build w) := by
    have hnodup : (transitionMap.map (fun r => (r.build w).ctorIdx)).Nodup :=
      transitionMap_mnemonics w ▸ List.nodup_range
    exact (List.pairwise_map.mp hnodup).imp fun hidx hbuild => hidx (congrArg Instr.ctorIdx hbuild)
  have builds {r : Row} (hr : r ∈ transitionMap.filter (·.hits g w)) : decode g w = .instr (r.build w) := by
    obtain ⟨hmem, hhit⟩ := List.mem_filter.mp hr
    exact (decodeSelectsTheMatchingRow g w _).mpr ⟨hR, r, hmem, hhit, rfl⟩
  have hpair := distinct.sublist (List.filter_sublist (p := (·.hits g w)))
  match hrows : transitionMap.filter (·.hits g w) with
  | [] => simp [hrows]
  | [_] => simp [hrows]
  | r :: r' :: rest =>
    have hr := builds (r := r) (by simp [hrows])
    have hr' := builds (r := r') (by simp [hrows])
    have hne := List.rel_of_pairwise_cons (hrows ▸ hpair) (List.mem_cons_self (a := r') (l := rest))
    exact absurd (Decoded.instr.inj (hr.symm.trans hr')) hne

/-- A word that selects a transition is matched by exactly one row (R117). -/
theorem one_hit_of_decode {g : Guards} {w : Tsel} {i : Instr} (h : decode g w = .instr i) :
    (transitionMap.filter (·.hits g w)).length = 1 := by
  obtain ⟨hR, r, hmem, hhit, -⟩ := (decodeSelectsTheMatchingRow g w i).mp h
  have hpos : 0 < (transitionMap.filter (·.hits g w)).length :=
    List.length_pos_of_mem (List.mem_filter.mpr ⟨hmem, hhit⟩)
  exact Nat.le_antisymm (hits_length_le_one g w hR) hpos

end Sys2Proof

namespace Sys2Proof.Machine

/-- A completed RX step selected a row (R161). -/
theorem decode_of_execRxStep {input : Option Byte} {s t : State} (h : execRxStep input s = .next t) :
    ∃ i, decode (guardsOf s) (rxTsel input s) = .instr i := by
  unfold execRxStep at h
  split at h
  · next i hi => exact ⟨i, hi⟩
  · cases h
  · cases h

/-- A completed TX transition selected a row (R201). -/
theorem decode_of_txTransition {s t : State} (h : txTransition s = .next t) :
    ∃ i, decode (guardsOf s) (txTsel s) = .instr i := by
  unfold txTransition at h
  split at h
  · next i hi => exact ⟨i, hi⟩
  · cases h
  · cases h

/-- Settles O5: under the invariant the step of either engine completes, so a row is selected. -/
theorem exactlyOneRowMatchesAFormedWord : Obligations.ExactlyOneRowMatchesAFormedWord := by
  unfold Obligations.ExactlyOneRowMatchesAFormedWord
  refine fun s hs => ⟨fun input => ?_, ?_⟩
  · obtain ⟨t, r, ht, -⟩ := execRxStep_completes hs.rx input
    obtain ⟨i, hi⟩ := decode_of_execRxStep ht
    exact one_hit_of_decode hi
  · obtain ⟨t, ht, -⟩ := txTransition_completes hs.tx
    obtain ⟨i, hi⟩ := decode_of_txTransition ht
    exact one_hit_of_decode hi

/-- Settles O23: by the row that the state and the input select. -/
theorem rxStepCompletes : Obligations.RxStepCompletes := by
  unfold Obligations.RxStepCompletes
  exact fun input s hs => execRxStep_completes hs input

/-- What the RX half of the map selects is an RX row, which `rxApply` runs. -/
theorem rxApply_of_decodeRx {g : Guards} {c : RxState} {v : Bool} {b : Byte} {i : Instr}
    (h : decodeRx g c v b = .instr i) (s : State) : rxApply i s = exec i s := by
  have hrow := encode_of_decodeRx h
  cases i with
  | rxIdle | rxStart | rxStray | rxLenOversize | rxLenZero | rxLen | rxPayload | rxPayloadLast | rxChkOk | rxChkBad
  | rxEndOk | rxEndBad | rxIllegal => rfl
  | txInit | txBuildExhausted | txBuildArm | txSend | txSendLast | txAwaitAck | txAwaitNack | txAwaitStray
  | txAwaitTimeout | txAwaitWait | txTerminal | txIllegal =>
    have hU := congrArg tselU (Option.some.inj hrow)
    simp at hU
  | codecChecksum | codecEncode | codecValidate | codecDecode | rxCreate | rxStep | txStart | txStep | txDestroy
  | harnessCreate | schedRound | schedRun | envInject | envDropNext => cases hrow

/-- Settles O22: a word with U = 0 selects an RX row. -/
theorem rxStepAppliesTheMatchingRow : Obligations.RxStepAppliesTheMatchingRow := by
  unfold Obligations.RxStepAppliesTheMatchingRow
  intro input s i h
  have hrow := h
  rw [rxTsel, decode_rxWord] at hrow
  rw [exec, execRxStep, h]
  exact rxApply_of_decodeRx hrow s

/-- Settles O7: a step is `exec` of what `fetch` reads, and `fetch` of a selector word is its `decode`. -/
theorem stepRunsTheFetchedOperation : Obligations.StepRunsTheFetchedOperation := by
  unfold Obligations.StepRunsTheFetchedOperation
  refine ⟨fun s slot rest i hp hf => ?run, fun s i => rfl, fun s w i hd => ?word,
    fun s w rest hp => ⟨fun hd => ?reserved, fun hd => ?noRow⟩, fun s hp => ?idle⟩
  case run => simp [step, hp, hf]
  case word => simp [fetch, hd]
  case reserved => simp [step, hp, fetch, hd]
  case noRow => simp [step, hp, fetch, hd]
  case idle => simp [step, hp]

end Sys2Proof.Machine
end

section
/-! SUPPORT. Under the invariant no operation is stuck and none raises IllegalState (R117, R277). -/

namespace Sys2Proof.Machine

/-- The answer is no fault of the model, and its next state, if it is one, was not reached by raising IllegalState. -/
def Healthy (r : Res) : Prop := (∀ e, r ≠ .fault e) ∧ Ensures (fun t => t.result ≠ .raised .illegalState) r

theorem Healthy.next {s : State} (h : s.result ≠ .raised .illegalState) : Healthy (.next s) := ⟨nofun, .next h⟩

theorem Healthy.refused (e : Refusal) : Healthy (.refused e) := ⟨nofun, .refused e⟩

theorem Healthy.ite {c : Prop} [Decidable c] {r r' : Res} (h : c → Healthy r) (h' : ¬ c → Healthy r') :
    Healthy (if c then r else r') := by
  split
  · next hc => exact h hc
  · next hc => exact h' hc

theorem Healthy.guard {c : Prop} [Decidable c] {r : Res} {e : Refusal} (h : c → Healthy r) :
    Healthy (if c then r else .refused e) := .ite h fun _ => .refused e

/-- A sequence is healthy if its first operation is stuck nowhere and its second is healthy. -/
theorem Healthy.andThen {r : Res} {f : State → Res} (h : ∀ e, r ≠ .fault e) (hf : ∀ u, Healthy (f u)) :
    Healthy (andThen r f) := by
  cases r with
  | next u => exact hf u
  | fault e => exact absurd rfl (h e)
  | refused e => exact .refused e

/-- A row that stores a DATA byte finds its index in rx_buf (R32). -/
theorem Healthy.storePayloadByte {s : State} (h : RxInv s) (hst : s.rx.state = .readPayload) (st : RxState) (b : Byte) :
    Healthy (storePayloadByte st b s) := by
  have hroom : s.rx.wcur.toNat < s.cfg.maxPayload := Nat.lt_of_lt_of_le (BitVec.lt_def.mp (h.cursor hst)) h.len
  rw [storePayloadByte_inRange hroom]
  exact .next nofun

theorem firstEntry_ne_fault (s : State) (e : Fault) : firstEntry s ≠ .fault e := by
  unfold firstEntry
  split
  · nofun
  · split <;> nofun

/-- A row that sends a frame byte finds its index in tx_frame (R40). -/
theorem sendFrameByte_ne_fault {s : State} (h : TxInv s) (hst : s.tx.state = .sending) (e : Fault) :
    sendFrameByte s ≠ .fault e := by
  have hflen := h.flen_le (h.built (by simp [hst]) (by simp [hst]))
  have hroom : s.tx.cursor.toNat < maxFrame := Nat.lt_of_lt_of_le (BitVec.lt_def.mp (h.sending hst)) hflen
  rw [sendFrameByte, if_pos hroom]
  nofun

theorem Healthy.environmentAct {k : Queue} {s : State} {act : Res} (h : Healthy act) :
    Healthy (environmentAct k s act) := by
  refine .guard fun _ => ?_
  split
  · exact .next nofun
  · exact h

/-- Under the invariant every elementary operation is healthy, row by row. -/
theorem Healthy.elementary {i : Instr} (hi : i.isElementary = true) {s : State} (h : s.Inv) : Healthy (exec i s) := by
  cases i with
  | rxIdle | codecDecode | rxCreate => exact .next nofun
  | rxStart | rxStray | rxLenOversize | rxLenZero | rxLen | rxChkOk | rxChkBad | rxEndBad | txInit | txAwaitAck
  | txAwaitNack | txAwaitStray | txAwaitTimeout | txAwaitWait | txTerminal | txDestroy | codecChecksum
  | codecValidate => exact .guard fun _ => .next nofun
  | rxPayload b | rxPayloadLast b => exact .guard fun ⟨hst, _⟩ => .storePayloadByte h.rx hst _ b
  | rxEndOk => exact .guard fun _ => .ite (fun _ => .next nofun) fun hlen => absurd h.rx.len hlen
  | rxIllegal c =>
    refine .guard fun ⟨hst, hc⟩ => ?_
    simp [← hst, h.rx.legal] at hc
  | txIllegal c =>
    refine .guard fun ⟨hst, hc⟩ => ?_
    simp [← hst, h.tx.legal] at hc
  | txBuildExhausted | txBuildArm =>
    exact .guard fun _ => .andThen (firstEntry_ne_fault s) fun u => .guard fun _ => .next nofun
  | txSend | txSendLast =>
    exact .guard fun ⟨hst, _⟩ => .andThen (sendFrameByte_ne_fault h.tx hst) fun u => .next nofun
  | codecEncode =>
    simp only [exec, execCodecEncode]
    split
    · exact .next nofun
    · exact .refused _
  | txStart => exact .ite (fun _ => .refused _) fun _ => .ite (fun _ => .refused _) fun _ => .next nofun
  | envInject => exact .environmentAct (.guard fun _ => .next nofun)
  | envDropNext => exact .environmentAct (.next nofun)
  | rxStep | txStep | schedRound | schedRun | harnessCreate => cases hi

theorem Healthy.of_next {r : Res} {t : State} (h : r = .next t) (hr : t.result ≠ .raised .illegalState) : Healthy r :=
  h ▸ .next hr

/-- Under the invariant every operation is healthy: the engines' steps, rounds and runs complete without a raise. -/
theorem Healthy.exec (i : Instr) {s : State} (h : s.Inv) : Healthy (exec i s) := by
  cases i with
  | rxStep input =>
    obtain ⟨t, r, ht, hr⟩ := execRxStep_completes h.rx input
    exact .of_next ht (by simp [hr])
  | txStep =>
    obtain ⟨t, r, ht, hr⟩ := txChain_completes h.tx s.tx.state.chainRank_lt
    exact .of_next ht (by simp [hr])
  | schedRound en =>
    obtain ⟨t, ht, hr⟩ := round_completes h en
    exact .of_next ht fun hraised => by simp [State.raised, hraised] at hr
  | schedRun n en =>
    refine .guard fun hlive => ?_
    obtain ⟨u, hu, hr, -, -⟩ := runLoop_completes n en ((inv_withIter s 0).mpr h)
    rw [hu, unlessRaised_next hr]
    refine .next ?_
    unfold endRun
    split <;> nofun
  | harnessCreate c => exact .guard fun _ => .next nofun
  | _ => exact .elementary rfl h

/-- Settles O56: every operation is healthy. -/
theorem noStuckAndNoIllegalStateUnderTheInvariant : Obligations.NoStuckAndNoIllegalStateUnderTheInvariant := by
  unfold Obligations.NoStuckAndNoIllegalStateUnderTheInvariant
  exact fun i s h => Healthy.exec i h

end Sys2Proof.Machine
end

section
/-! SUPPORT. A transition takes effect only where its selector word selects it (R116 to R118, log entry 12). -/

namespace Sys2Proof.Machine

/-- The word `w` selects the transition in the state `s`: it decodes to it, in the unit's state, and for the TX it is
the very word the engine forms (R116, R117). -/
def Selects (w : Tsel) (i : Instr) (s : State) : Prop :=
  decode (guardsOf s) w = .instr i ∧ (tselU w = false → tselS w = s.rx.state.code) ∧ (tselU w = true → w = txTsel s)

/-- An RX transition admitted in the state of its word is selected there. -/
theorem selects_rx {w : Tsel} {i : Instr} {s : State} {c : RxState} {b : Byte} (hw : encode i = some w)
    (hst : s.rx.state = c) (hword : encode i = some (tselWord false c.code (some b))) (hwf : i.wf = true)
    (hadm : i.admitted (guardsOf s) = true) : Selects w i s := by
  have hsel := decode_encode hwf hadm hw
  obtain rfl := Option.some.inj (hword.symm.trans hw)
  exact ⟨hsel, fun _ => by simp [hst], fun hU => by simp at hU⟩

/-- A TX transition admitted in the state and on the poll of its word is selected there. -/
theorem selects_tx {w : Tsel} {i : Instr} {s : State} {c : TxState} {input : Option Byte} (hw : encode i = some w)
    (hst : s.tx.state = c) (hpoll : poll s = input) (hword : encode i = some (tselWord true c.code input))
    (hwf : i.wf = true) (hadm : i.admitted (guardsOf s) = true) : Selects w i s := by
  have hsel := decode_encode hwf hadm hw
  obtain rfl := Option.some.inj (hword.symm.trans hw)
  exact ⟨hsel, fun hU => by simp at hU, fun _ => by rw [txTsel, hst, hpoll]⟩

/-- Only AWAIT_RESPONSE polls (R116). -/
theorem poll_eq_none {s : State} (h : s.tx.state ≠ .awaitResponse) : poll s = none := by
  unfold poll
  split
  · next hst => exact absurd hst h
  all_goals rfl

/-- Outside AWAIT_RESPONSE there is no poll to compare (R116). -/
theorem selects_unpolled {w : Tsel} {i : Instr} {s : State} {c : TxState} (hw : encode i = some w)
    (hst : s.tx.state = c) (hc : c ≠ .awaitResponse) (hword : encode i = some (tselWord true c.code none))
    (hwf : i.wf = true) (hadm : i.admitted (guardsOf s) = true) : Selects w i s :=
  selects_tx hw hst (poll_eq_none (hst ▸ hc)) hword hwf hadm

/-- The answer `r` of the state `s` is a next state only where `P` holds; where `P` fails it is a refusal, under the
transmitter's invariant. -/
def OnlyWhere (P : Prop) (s : State) (r : Res) : Prop :=
  ((∃ t, r = .next t) → P) ∧ (TxInv s → ¬ P → r = .refused .rowNotSelected)

theorem OnlyWhere.notSelected (P : Prop) (s : State) : OnlyWhere P s (.refused .rowNotSelected) := by
  refine ⟨?_, fun _ _ => rfl⟩
  rintro ⟨t, ht⟩
  cases ht

theorem OnlyWhere.guard {P c : Prop} [Decidable c] {s : State} {r : Res} (h : c → P) :
    OnlyWhere P s (if c then r else .refused .rowNotSelected) := by
  split
  · next hc => exact ⟨fun _ => h hc, fun _ hP => absurd (h hc) hP⟩
  · exact .notSelected P s

/-- The first-entry action leaves the attempts and the limit that the guards read (R203). -/
theorem firstEntry_guards (s : State) : Ensures (fun u => u.tx.attempts = (guardsOf s).txAttempts
    ∧ u.cfg.retryLimit = (guardsOf s).retryLimit) (firstEntry s) := by
  unfold firstEntry
  split
  · next hb => exact .next ⟨by simp [guardsOf, hb], rfl⟩
  · next hb =>
    split
    · exact .next ⟨by simp [guardsOf, hb], rfl⟩
    · exact .refused _

/-- A row of BUILD_AND_ARM, whose guard is tested after the first-entry action (R204, R205). -/
theorem OnlyWhere.build {P : Prop} {c : State → Prop} [DecidablePred c] {f : State → State} {s : State}
    (h : s.tx.state = .buildAndArm → ∀ u, u.tx.attempts = (guardsOf s).txAttempts →
      u.cfg.retryLimit = (guardsOf s).retryLimit → c u → P) :
    OnlyWhere P s (if s.tx.state = .buildAndArm then
      Machine.andThen (firstEntry s) fun u => if c u then .next (f u) else .refused .rowNotSelected
      else .refused .rowNotSelected) := by
  by_cases hst : s.tx.state = .buildAndArm
  · rw [if_pos hst]
    constructor
    · rintro ⟨t, ht⟩
      obtain ⟨u, hu, ht⟩ := andThen_eq_next ht
      obtain ⟨hatt, hlim⟩ := firstEntry_guards s u hu
      exact (OnlyWhere.guard (s := s) (h hst u hatt hlim)).1 ⟨t, ht⟩
    · intro hinv hP
      obtain ⟨u, hu, -⟩ := firstEntry_completes hinv hst
      obtain ⟨hatt, hlim⟩ := firstEntry_guards s u hu
      rw [hu, andThen_next]
      exact (OnlyWhere.guard (h hst u hatt hlim)).2 hinv hP
  · rw [if_neg hst]
    exact .notSelected P s

/-- Row by row: the guard that `exec` tests makes the row admitted in the state its word names (R117, log entry 12). -/
theorem onlyWhere_selects {i : Instr} {w : Tsel} (hw : encode i = some w) (hi : ∀ c, i ≠ .rxIdle c) (s : State) :
    OnlyWhere (Selects w i s) s (exec i s) := by
  cases i with
  | rxIdle c => exact absurd rfl (hi c)
  | rxStart => exact .guard fun hst => selects_rx hw hst rfl rfl rfl
  | rxStray b => exact .guard fun ⟨hst, hb⟩ => selects_rx hw hst rfl (bne_iff_ne.mpr hb) rfl
  | rxLenOversize b =>
    exact .guard fun ⟨hst, hmax⟩ =>
      selects_rx hw hst rfl (by simp [Instr.wf]; bv_omega) (decide_eq_true hmax)
  | rxLenZero => exact .guard fun hst => selects_rx hw hst rfl rfl rfl
  | rxLen b =>
    exact .guard fun ⟨hst, hpos, hmax⟩ =>
      selects_rx hw hst rfl (by simp [Instr.wf]; bv_omega) (decide_eq_true hmax)
  | rxPayload b => exact .guard fun ⟨hst, hlt⟩ => selects_rx hw hst rfl rfl (decide_eq_true hlt)
  | rxPayloadLast b => exact .guard fun ⟨hst, heq⟩ => selects_rx hw hst rfl rfl (beq_iff_eq.mpr heq)
  | rxChkOk b => exact .guard fun ⟨hst, hb⟩ => selects_rx hw hst rfl rfl (beq_iff_eq.mpr hb)
  | rxChkBad b => exact .guard fun ⟨hst, hb⟩ => selects_rx hw hst rfl rfl (bne_iff_ne.mpr hb)
  | rxEndOk => exact .guard fun hst => selects_rx hw hst rfl rfl rfl
  | rxEndBad b => exact .guard fun ⟨hst, hb⟩ => selects_rx hw hst rfl (bne_iff_ne.mpr hb) rfl
  | rxIllegal c b => exact .guard fun ⟨hst, hc⟩ => selects_rx hw hst rfl hc rfl
  | txInit => exact .guard fun hst => selects_unpolled hw hst nofun rfl rfl rfl
  | txBuildExhausted =>
    exact .build fun hst u hatt hlim hle =>
      selects_unpolled hw hst nofun rfl rfl (decide_eq_true (hatt ▸ hlim ▸ hle))
  | txBuildArm =>
    exact .build fun hst u hatt hlim hlt =>
      selects_unpolled hw hst nofun rfl rfl (decide_eq_true (hatt ▸ hlim ▸ hlt))
  | txSend =>
    exact .guard fun ⟨hst, hlt⟩ => selects_unpolled hw hst nofun rfl rfl (decide_eq_true hlt)
  | txSendLast =>
    exact .guard fun ⟨hst, heq⟩ => selects_unpolled hw hst nofun rfl rfl (beq_iff_eq.mpr heq)
  | txAwaitAck => exact .guard fun ⟨hst, hpoll⟩ => selects_tx hw hst hpoll rfl rfl rfl
  | txAwaitNack => exact .guard fun ⟨hst, hpoll⟩ => selects_tx hw hst hpoll rfl rfl rfl
  | txAwaitStray b =>
    exact .guard fun ⟨hst, hpoll, hack, hnack⟩ => selects_tx hw hst hpoll rfl (by simp [Instr.wf, hack, hnack]) rfl
  | txAwaitTimeout => exact .guard fun ⟨hst, hpoll, hle⟩ => selects_tx hw hst hpoll rfl rfl (decide_eq_true hle)
  | txAwaitWait => exact .guard fun ⟨hst, hpoll, hlt⟩ => selects_tx hw hst hpoll rfl rfl (decide_eq_true hlt)
  | txTerminal c =>
    exact .guard fun ⟨hst, hc⟩ => selects_unpolled hw hst (by rintro rfl; cases hc) rfl hc rfl
  | txIllegal c =>
    exact .guard fun ⟨hst, hc⟩ => selects_unpolled hw hst (by rintro rfl; cases hc) rfl hc rfl
  | codecChecksum | codecEncode | codecValidate | codecDecode | rxCreate | rxStep | txStart | txStep | txDestroy
  | harnessCreate | schedRound | schedRun | envInject | envDropNext => cases hw

/-- Settles O57: the guard of each row is what selects its word. -/
theorem transitionsTakeEffectOnlyWhenSelected : Obligations.TransitionsTakeEffectOnlyWhenSelected := by
  unfold Obligations.TransitionsTakeEffectOnlyWhenSelected
  exact fun i w s hw hi => onlyWhere_selects hw hi s

end Sys2Proof.Machine
end

section
/-! SUPPORT. The codec operations: what each answers (R141 to R143), that it answers without side effects (R145), and which
changes the checksum detects (R148). -/

namespace Sys2Proof.Machine

/-! ### Encode and Validate -/

/-- A payload that fits in LEN has a frame (R141). -/
theorem encodeFrame_fits {p : List Byte} (h : p.length ≤ 255) : encodeFrame p =
    some ([stx, BitVec.ofNat 8 p.length] ++ p ++ [checksum (BitVec.ofNat 8 p.length) p, etx]) := if_pos h

/-- A longer payload has none (R142). -/
theorem encodeFrame_tooLong {p : List Byte} (h : 255 < p.length) : encodeFrame p = none := if_neg (Nat.not_le.mpr h)

/-- Settles O9: by the two cases of `encodeFrame`; TX_START makes the same test first. -/
theorem encodeReturnsTheFrame : Obligations.EncodeReturnsTheFrame := by
  unfold Obligations.EncodeReturnsTheFrame
  intro p s
  refine ⟨fun h => ?fits, fun h => ⟨?tooLong, if_pos h⟩⟩
  case fits => rw [exec, execCodecEncode, encodeFrame_fits h]; rfl
  case tooLong => rw [exec, execCodecEncode, encodeFrame_tooLong h]

theorem validateChecksum_eq_true {len c : Byte} {d : List Byte} :
    validateChecksum len d c = true ↔ checksum len d = c := beq_iff_eq

theorem validateChecksum_eq_false {len c : Byte} {d : List Byte} :
    validateChecksum len d c = false ↔ checksum len d ≠ c := beq_eq_false_iff_ne

/-- Settles O10: `validateChecksum` is the comparison of the fold with CHK. -/
theorem validateComparesWithTheFold : Obligations.ValidateComparesWithTheFold := by
  unfold Obligations.ValidateComparesWithTheFold
  intro len data c s
  exact ⟨fun hlen => if_pos hlen, fun hlen => if_neg hlen⟩

/-! ### No side effects -/

/-- An operation that, under a MAX_PAYLOAD, returns `r` in every state and changes nothing else. -/
def OnlyReturns (maxPayload : Nat) (i : Instr) (r : OpResult) : Prop :=
  ∀ u : State, u.cfg.maxPayload = maxPayload → exec i u = .next (u.ret r)

/-- A codec operation that completes in one state only returns its result in every state (R145). -/
theorem codec_onlyReturns {i : Instr} {s t : State}
    (hi : (∃ len d, i = .codecChecksum len d) ∨ (∃ p, i = .codecEncode p) ∨ (∃ len d c, i = .codecValidate len d c)
      ∨ ∃ bs, i = .codecDecode bs) (h : exec i s = .next t) : ∃ r, OnlyReturns s.cfg.maxPayload i r := by
  obtain ⟨len, d, rfl⟩ | ⟨p, rfl⟩ | ⟨len, d, c, rfl⟩ | ⟨bs, rfl⟩ := hi
  · by_cases hlen : d.length = len.toNat
    · exact ⟨_, fun u _ => if_pos hlen⟩
    · rw [exec, execCodecChecksum, if_neg hlen] at h
      cases h
  · rw [exec, execCodecEncode] at h
    cases hp : encodeFrame p with
    | some bs => exact ⟨.frame bs, fun u _ => by rw [exec, execCodecEncode, hp]⟩
    | none =>
      rw [hp] at h
      cases h
  · by_cases hlen : d.length = len.toNat
    · exact ⟨_, fun u _ => if_pos hlen⟩
    · rw [exec, execCodecValidate, if_neg hlen] at h
      cases h
  · exact ⟨.decoded (decodeFrame s.cfg.maxPayload bs), fun u hu => by rw [exec, execCodecDecode, hu]⟩

/-- Settles O14: the result is found once for every state of the same MAX_PAYLOAD. -/
theorem codecHasNoSideEffects : Obligations.CodecHasNoSideEffects := by
  unfold Obligations.CodecHasNoSideEffects
  intro i s t u hi h
  obtain ⟨r, hr⟩ := codec_onlyReturns hi h
  rw [hr s rfl] at h
  cases h
  exact ⟨rfl, hr u⟩

/-! ### What the checksum detects -/

/-- A list with one byte replaced, in another order. -/
theorem set_perm_cons (d : List Byte) (i : Nat) (h : i < d.length) (b : Byte) :
    (d.set i b).Perm (b :: d.eraseIdx i) := by
  induction d generalizing i with
  | nil => cases h
  | cons x xs ih =>
    cases i with
    | zero => exact List.Perm.refl (b :: xs)
    | succ n => exact ((ih n (Nat.lt_of_succ_lt_succ h)).cons x).trans (List.Perm.swap b x (xs.eraseIdx n))

/-- A byte replaced goes into the fold of the other bytes, wherever it stands. -/
theorem checksum_set (len : Byte) (d : List Byte) (i : Nat) (h : i < d.length) (b : Byte) :
    checksum len (d.set i b) = checksum len (d.eraseIdx i) ^^^ b := by
  have hperm := (set_perm_cons d i h b).trans (List.perm_append_singleton b (d.eraseIdx i)).symm
  rw [checksum_perm hperm, checksum_append_one]

/-- A byte goes into the fold of the other bytes. -/
theorem checksum_eraseIdx (len : Byte) (d : List Byte) (i : Nat) (h : i < d.length) :
    checksum len d = checksum len (d.eraseIdx i) ^^^ d[i] := by
  rw [← checksum_set len d i h, List.set_getElem_self]

/-- Bits flipped in one byte are flipped in the fold. -/
theorem checksum_flip (len : Byte) (d : List Byte) (i : Nat) (h : i < d.length) (x : Byte) :
    checksum len (d.set i (d[i] ^^^ x)) = checksum len d ^^^ x := by
  rw [checksum_set len d i h, checksum_eraseIdx len d i h, BitVec.xor_assoc]

/-- Settles O13: two bytes that differ give two folds, and the same flip twice gives the old one. -/
theorem checksumDetectsOneChangedByte : Obligations.ChecksumDetectsOneChangedByte := by
  unfold Obligations.ChecksumDetectsOneChangedByte
  intro len c d hvalid
  obtain rfl := validateChecksum_eq_true.mp hvalid
  refine ⟨fun i h b hb => ?data, fun c' hc => ?chk, fun i j hi hj x hij => ?twoData, fun i h x => ?dataAndChk⟩
  case data =>
    refine validateChecksum_eq_false.mpr fun heq => hb ?_
    rw [checksum_set len d i h, checksum_eraseIdx len d i h, BitVec.xor_right_inj] at heq
    exact heq.symm
  case chk => exact validateChecksum_eq_false.mpr hc.symm
  case twoData =>
    have hj' : j < (d.set i (d[i] ^^^ x)).length := by simpa using hj
    have hflip := checksum_flip len _ j hj' x
    rw [List.getElem_set_ne hij, checksum_flip len d i hi, BitVec.xor_assoc, BitVec.xor_self, BitVec.xor_zero] at hflip
    exact validateChecksum_eq_true.mpr hflip
  case dataAndChk => exact validateChecksum_eq_true.mpr (checksum_flip len d i h x)

end Sys2Proof.Machine
end

section
/-! SUPPORT. Decode's checks as the shapes a byte list can have, one shape a branch (R144), and its agreement with Encode
(R146). -/

namespace Sys2Proof.Machine

/-! ### The shapes of a byte list -/

/-- The lists `decodeFrame` gives each verdict to, by the check that decides (R144). -/
inductive DecodesTo (maxPayload : Nat) : List Byte → FrameVerdict → Prop where
  | noMarker {bs : List Byte} (hstx : bs.head? ≠ some stx) : DecodesTo maxPayload bs .notAFrame
  | endsAtMarker : DecodesTo maxPayload [stx] .incomplete
  | oversized {len : Byte} {rest : List Byte} (hmax : maxPayload < len.toNat) :
    DecodesTo maxPayload (stx :: len :: rest) .oversizedFrame
  | endsInData {len : Byte} {d : List Byte} (hmax : len.toNat ≤ maxPayload) (hd : d.length ≤ len.toNat) :
    DecodesTo maxPayload (stx :: len :: d) .incomplete
  | wrongChecksum {len : Byte} {d : List Byte} {c : Byte} {rest : List Byte} (hmax : len.toNat ≤ maxPayload)
    (hd : d.length = len.toNat) (hc : c ≠ checksum len d) :
    DecodesTo maxPayload (stx :: len :: (d ++ c :: rest)) .checksumMismatch
  | endsAtChecksum {len : Byte} {d : List Byte} (hmax : len.toNat ≤ maxPayload) (hd : d.length = len.toNat) :
    DecodesTo maxPayload (stx :: len :: (d ++ [checksum len d])) .incomplete
  | wrongEnd {len : Byte} {d : List Byte} {e : Byte} {rest : List Byte} (hmax : len.toNat ≤ maxPayload)
    (hd : d.length = len.toNat) (he : e ≠ etx) :
    DecodesTo maxPayload (stx :: len :: (d ++ checksum len d :: e :: rest)) .framingError
  | goesOn {len : Byte} {d rest : List Byte} (hmax : len.toNat ≤ maxPayload) (hd : d.length = len.toNat)
    (hrest : rest ≠ []) : DecodesTo maxPayload (stx :: len :: (d ++ checksum len d :: etx :: rest)) .trailingBytes
  | frame {len : Byte} {d : List Byte} (hmax : len.toNat ≤ maxPayload) (hd : d.length = len.toNat) :
    DecodesTo maxPayload (stx :: len :: (d ++ [checksum len d, etx])) (.ok d)

/-- Each shape has its verdict. -/
theorem DecodesTo.decodeFrame_eq {maxPayload : Nat} {bs : List Byte} {v : FrameVerdict} (h : DecodesTo maxPayload bs v) :
    decodeFrame maxPayload bs = v := by
  cases h with
  | noMarker hstx =>
    cases bs with
    | nil => rfl
    | cons b rest => exact if_pos (by simpa using hstx)
  | endsAtMarker => rfl
  | oversized hmax => exact if_pos hmax
  | endsInData hmax hd => simp [decodeFrame, decodeBody, Nat.not_lt.mpr hmax, Nat.lt_succ_of_le hd]
  | wrongChecksum hmax hd hc => simp [decodeFrame, decodeBody, ← hd, Nat.not_lt.mpr (hd ▸ hmax), hc]
  | endsAtChecksum hmax hd => simp [decodeFrame, decodeBody, ← hd, Nat.not_lt.mpr (hd ▸ hmax)]
  | wrongEnd hmax hd he => simp [decodeFrame, decodeBody, ← hd, Nat.not_lt.mpr (hd ▸ hmax), he]
  | goesOn hmax hd hrest => simp [decodeFrame, decodeBody, ← hd, Nat.not_lt.mpr (hd ▸ hmax), List.length_pos_iff.mpr hrest]
  | frame hmax hd => simp [decodeFrame, decodeBody, ← hd, Nat.not_lt.mpr (hd ▸ hmax)]

/-- A list of more bytes than LEN is DATA and what follows it. -/
theorem data_or_more (len : Byte) (body : List Byte) :
    body.length ≤ len.toNat ∨ ∃ d c rest, body = d ++ c :: rest ∧ d.length = len.toNat := by
  by_cases h : body.length ≤ len.toNat
  · exact .inl h
  · have hlt : len.toNat < body.length := Nat.lt_of_not_le h
    exact .inr ⟨body.take len.toNat, body[len.toNat], body.drop (len.toNat + 1), by simp, by simp; omega⟩

/-- Every list has a shape. -/
theorem exists_decodesTo (maxPayload : Nat) (bs : List Byte) : ∃ v, DecodesTo maxPayload bs v := by
  by_cases hstx : bs.head? = some stx
  case neg => exact ⟨_, .noMarker hstx⟩
  obtain ⟨body, rfl⟩ := List.head?_eq_some_iff.mp hstx
  cases body with
  | nil => exact ⟨_, .endsAtMarker⟩
  | cons len body =>
    obtain hmax | hmax := Nat.lt_or_ge maxPayload len.toNat
    · exact ⟨_, .oversized hmax⟩
    obtain hd | ⟨d, c, rest, rfl, hd⟩ := data_or_more len body
    · exact ⟨_, .endsInData hmax hd⟩
    by_cases hc : c = checksum len d
    case neg => exact ⟨_, .wrongChecksum hmax hd hc⟩
    subst hc
    cases rest with
    | nil => exact ⟨_, .endsAtChecksum hmax hd⟩
    | cons e rest =>
      by_cases he : e = etx
      case neg => exact ⟨_, .wrongEnd hmax hd he⟩
      subst he
      by_cases hrest : rest = []
      · subst hrest
        exact ⟨_, .frame hmax hd⟩
      · exact ⟨_, .goesOn hmax hd hrest⟩

/-- Decode's verdict is the one of the list's shape (R144). -/
theorem decodeFrame_eq_iff {maxPayload : Nat} {bs : List Byte} {v : FrameVerdict} :
    decodeFrame maxPayload bs = v ↔ DecodesTo maxPayload bs v := by
  refine ⟨fun h => ?_, DecodesTo.decodeFrame_eq⟩
  obtain ⟨v', hv'⟩ := exists_decodesTo maxPayload bs
  rwa [← h, hv'.decodeFrame_eq]

/-! ### Frames -/

/-- The frame of a payload, by its LEN byte (R100, R141). -/
theorem encodeFrame_iff_len {p bs : List Byte} : encodeFrame p = some bs ↔
    ∃ len : Byte, p.length = len.toNat ∧ bs = stx :: len :: (p ++ [checksum len p, etx]) := by
  rw [encodeFrame_eq_some]
  constructor
  · rintro ⟨h, rfl⟩
    exact ⟨BitVec.ofNat 8 p.length, by simp; omega, by simp⟩
  · rintro ⟨len, h, rfl⟩
    have hlen : BitVec.ofNat 8 p.length = len := by simp [h]
    exact ⟨by omega, by simp [hlen]⟩

/-- Settles O11: each verdict's clause reads off the shapes that have it. -/
theorem decodeAcceptsExactlyFrames : Obligations.DecodeAcceptsExactlyFrames := by
  unfold Obligations.DecodeAcceptsExactlyFrames
  simp only [decodeFrame_eq_iff]
  refine ⟨fun bs s => rfl, fun m bs p => ?ok, fun m bs => ?notAFrame, fun m bs => ?oversized, fun m bs => ?incomplete,
    fun m bs => ?checksumMismatch, fun m bs => ?framingError, fun m bs => ?trailing⟩
  case ok =>
    rw [encodeFrame_iff_len]
    constructor
    · exact fun | .frame hmax hd => ⟨hd ▸ hmax, _, hd, rfl⟩
    · rintro ⟨hmax, len, hd, rfl⟩
      exact .frame (hd ▸ hmax) hd
  case notAFrame => exact ⟨fun | .noMarker hstx => hstx, .noMarker⟩
  case oversized => exact ⟨fun | .oversized hmax => ⟨_, _, rfl, hmax⟩, fun ⟨_, _, hbs, hmax⟩ => hbs ▸ .oversized hmax⟩
  case incomplete =>
    constructor
    · exact fun
        | .endsAtMarker => .inl rfl
        | .endsInData hmax hd => .inr ⟨_, _, rfl, hmax, .inl hd⟩
        | .endsAtChecksum hmax hd => .inr ⟨_, _, rfl, hmax, .inr ⟨_, hd, rfl⟩⟩
    · rintro (rfl | ⟨len, rest, rfl, hmax, hd | ⟨d, hd, rfl⟩⟩)
      · exact .endsAtMarker
      · exact .endsInData hmax hd
      · exact .endsAtChecksum hmax hd
  case checksumMismatch =>
    exact ⟨fun | .wrongChecksum hmax hd hc => ⟨_, _, _, _, rfl, hmax, hd, hc⟩,
      fun ⟨_, _, _, _, hbs, hmax, hd, hc⟩ => hbs ▸ .wrongChecksum hmax hd hc⟩
  case framingError =>
    exact ⟨fun | .wrongEnd hmax hd he => ⟨_, _, _, _, rfl, hmax, hd, he⟩,
      fun ⟨_, _, _, _, hbs, hmax, hd, he⟩ => hbs ▸ .wrongEnd hmax hd he⟩
  case trailing =>
    simp only [encodeFrame_iff_len]
    constructor
    · exact fun | .goesOn hmax hd hrest => ⟨_, _, _, hd ▸ hmax, ⟨_, hd, rfl⟩, hrest, by simp⟩
    · rintro ⟨p, _, rest, hmax, ⟨len, hd, rfl⟩, hrest, rfl⟩
      simpa using DecodesTo.goesOn (hd ▸ hmax) hd hrest

/-- Settles O12: the frame's own shape, or LEN over MAX_PAYLOAD. -/
theorem decodeOfEncodeIsThePayload : Obligations.DecodeOfEncodeIsThePayload := by
  unfold Obligations.DecodeOfEncodeIsThePayload
  intro m p bs h
  obtain ⟨len, hd, rfl⟩ := encodeFrame_iff_len.mp h
  rw [hd]
  exact ⟨fun hmax => (DecodesTo.frame hmax hd).decodeFrame_eq, fun hmax => (DecodesTo.oversized hmax).decodeFrame_eq⟩

end Sys2Proof.Machine
end

section
/-! SUPPORT. The receiver fed a byte list: the quiet steps over a frame's first bytes, the step that ends it, and the agreement
with Decode (R147). -/

namespace Sys2Proof.Machine

/-! ### RX_STEP by its row -/

/-- RX_STEP runs the row its state and byte select (R161). -/
theorem execRxStep_of_row {s : State} {b : Byte} {i : Instr}
    (hrow : decodeRx (guardsOf s) s.rx.state true b = .instr i) : execRxStep (some b) s = exec i s := by
  have hd : decode (guardsOf s) (rxTsel (some b) s) = .instr i := by rw [rxTsel, decode_rxWord]; exact hrow
  exact rxStepAppliesTheMatchingRow (some b) s i hd

/-! ### Feeding in parts -/

theorem feedRx_append (bs cs : List Byte) (s : State) : feedRx (bs ++ cs) s = andThen (feedRx bs s) (feedRx cs) := by
  induction bs generalizing s with
  | nil => rfl
  | cons b bs ih =>
    simp only [List.cons_append, feedRx]
    cases execRxStep (some b) s with
    | next u => exact ih u
    | fault e => rfl
    | refused e => rfl

theorem feedResults_append {bs : List Byte} {s t : State} (h : feedRx bs s = .next t) (cs : List Byte) :
    feedResults (bs ++ cs) s = feedResults bs s ++ feedResults cs t := by
  induction bs generalizing s with
  | nil => cases h; rfl
  | cons b bs ih =>
    obtain ⟨u, hu, hut⟩ := andThen_eq_next h
    simp [feedResults, hu, ih hut]

/-- Feeding the bytes leads from `s` to `t` and every step returns NONE. -/
structure Quiet (bs : List Byte) (s t : State) : Prop where
  feed : feedRx bs s = .next t
  results : feedResults bs s = List.replicate bs.length (.rx .none)

namespace Quiet

variable {bs cs : List Byte} {b : Byte} {s t u : State}

theorem nil (s : State) : Quiet [] s s := ⟨rfl, rfl⟩

theorem one (h : execRxStep (some b) s = .next t) (hr : t.result = .rx .none) : Quiet [b] s t where
  feed := by simp [feedRx, h]
  results := by simp [feedResults, h, hr]

theorem append (h : Quiet bs s u) (h' : Quiet cs u t) : Quiet (bs ++ cs) s t where
  feed := by rw [feedRx_append, h.feed, andThen_next, h'.feed]
  results := by rw [feedResults_append h.feed, h.results, h'.results, List.length_append, List.replicate_append_replicate]

/-- The state after one byte more, whatever its step returns. -/
theorem feed_then (h : Quiet bs s u) (hstep : execRxStep (some b) u = .next t) : feedRx (bs ++ [b]) s = .next t := by
  simp [feedRx_append, h.feed, feedRx, hstep]

/-- The results with one byte more, whatever its step returns. -/
theorem results_then (h : Quiet bs s u) (hstep : execRxStep (some b) u = .next t) :
    feedResults (bs ++ [b]) s = List.replicate bs.length (.rx .none) ++ [t.result] := by
  simp [feedResults_append h.feed, h.results, feedResults, hstep]

end Quiet

/-! ### The receiver inside a frame -/

/-- The receiver has taken LEN and the DATA bytes `d`, and waits for the next one, or for CHK. -/
structure Collected (len : Byte) (d : List Byte) (s : State) : Prop where
  state : s.rx.state = if d.length < len.toNat then .readPayload else .readChecksum
  length : s.rx.len = len
  fits : len.toNat ≤ s.cfg.maxPayload
  cursor : s.rx.wcur.toNat = d.length
  fold : s.rx.chk = checksum len d
  data : rxBytes s.rx.buf d.length = d

/-- The receiver has taken LEN, the DATA bytes `d` and CHK, and waits for ETX. -/
structure Checked (d : List Byte) (s : State) : Prop where
  state : s.rx.state = .readEnd
  fits : s.rx.len.toNat ≤ s.cfg.maxPayload
  data : rxBytes s.rx.buf s.rx.len.toNat = d

/-- The start marker (R163). -/
theorem quiet_marker {s : State} (h : s.rx.state = .awaitStart) :
    ∃ t, Quiet [stx] s t ∧ t.rx.state = .readLength ∧ t.cfg = s.cfg :=
  ⟨_, .one ((execRxStep_of_row (i := .rxStart) (by simp [decodeRx, h])).trans (if_pos h)) rfl, rfl, rfl⟩

/-- A LEN byte in range (R166, R167). -/
theorem quiet_length {len : Byte} {s : State} (h : s.rx.state = .readLength) (hmax : len.toNat ≤ s.cfg.maxPayload) :
    ∃ t, Quiet [len] s t ∧ Collected len [] t := by
  have hmax' : ¬ s.cfg.maxPayload < len.toNat := Nat.not_lt.mpr hmax
  by_cases hlen : len = 0#8
  · subst hlen
    exact ⟨_, .one ((execRxStep_of_row (i := .rxLenZero) (by simp [decodeRx, guardsOf, h])).trans (if_pos h)) rfl,
      rfl, rfl, hmax, rfl, rfl, rfl⟩
  · have hpos : 0 < len.toNat := by bv_omega
    exact ⟨_, .one ((execRxStep_of_row (i := .rxLen len) (by simp [decodeRx, guardsOf, h, hmax', hlen])).trans
      (if_pos ⟨h, hpos, hmax⟩)) rfl, (if_pos hpos).symm, rfl, hmax, rfl, rfl, rfl⟩

/-- A DATA byte stored, under the cursor and the state it leads to. -/
theorem Collected.stored {len : Byte} {d : List Byte} {s : State} (h : Collected len d s) (b : Byte) {st : RxState}
    (hst : st = if d.length + 1 < len.toNat then .readPayload else .readChecksum)
    (hsucc : (s.rx.wcur + 1#8).toNat = d.length + 1) :
    Collected len (d ++ [b]) { s with
      rx := { s.rx with buf := Buffer.write s.rx.wcur.toNat b s.rx.buf, chk := s.rx.chk ^^^ b
                        wcur := s.rx.wcur + 1#8, state := st }
      result := .rx .none } where
  state := by simpa using hst
  length := h.length
  fits := h.fits
  cursor := by simp [hsucc]
  fold := by simp [h.fold]
  data := by simp [h.cursor, rxBytes_write, h.data]

/-- A DATA byte (R168, R169). -/
theorem Collected.quiet_byte {len : Byte} {d : List Byte} {s : State} (h : Collected len d s)
    (hd : d.length < len.toNat) (b : Byte) : ∃ t, Quiet [b] s t ∧ Collected len (d ++ [b]) t := by
  have hst : s.rx.state = .readPayload := h.state.trans (if_pos hd)
  have hroom : s.rx.wcur.toNat < s.cfg.maxPayload := by rw [h.cursor]; exact Nat.lt_of_lt_of_le hd h.fits
  have hsucc : (s.rx.wcur + 1#8).toNat = d.length + 1 := by have := h.cursor; bv_omega
  by_cases hmore : d.length + 1 < len.toNat
  · have hlt : s.rx.wcur + 1#8 < s.rx.len := by rw [BitVec.lt_def, hsucc, h.length]; exact hmore
    exact ⟨_, .one ((execRxStep_of_row (i := .rxPayload b) (by simp [decodeRx, guardsOf, hst, hlt])).trans
      ((if_pos ⟨hst, hlt⟩).trans (storePayloadByte_inRange hroom _ b))) rfl, h.stored b (if_pos hmore).symm hsucc⟩
  · have heq : s.rx.wcur + 1#8 = s.rx.len := BitVec.eq_of_toNat_eq (by rw [hsucc, h.length]; omega)
    exact ⟨_, .one ((execRxStep_of_row (i := .rxPayloadLast b) (by simp [decodeRx, guardsOf, hst, heq])).trans
      ((if_pos ⟨hst, heq⟩).trans (storePayloadByte_inRange hroom _ b))) rfl, h.stored b (if_neg hmore).symm hsucc⟩

/-- The DATA bytes, in any number up to LEN. -/
theorem Collected.quiet_data {len : Byte} {d : List Byte} {s : State} (h : Collected len d s) (e : List Byte)
    (hd : (d ++ e).length ≤ len.toNat) : ∃ t, Quiet e s t ∧ Collected len (d ++ e) t := by
  induction e generalizing d s with
  | nil => exact ⟨s, .nil s, by simpa using h⟩
  | cons b e ih =>
    have hlt : d.length < len.toNat := by simp at hd; omega
    obtain ⟨u, hq, hu⟩ := h.quiet_byte hlt b
    obtain ⟨t, hq', ht⟩ := ih hu (by simpa using hd)
    exact ⟨t, hq.append hq', by simpa using ht⟩

/-- A frame's first bytes, before CHK. -/
theorem quiet_upToData {len : Byte} {d : List Byte} {s : State} (h : s.rx.state = .awaitStart)
    (hmax : len.toNat ≤ s.cfg.maxPayload) (hd : d.length ≤ len.toNat) :
    ∃ t, Quiet (stx :: len :: d) s t ∧ Collected len d t := by
  obtain ⟨u, hq, hu, hcfg⟩ := quiet_marker h
  obtain ⟨v, hq', hv⟩ := quiet_length hu (hcfg ▸ hmax)
  obtain ⟨t, hq'', ht⟩ := hv.quiet_data d hd
  exact ⟨t, (hq.append hq').append hq'', ht⟩

theorem Collected.readChecksum {len : Byte} {d : List Byte} {s : State} (h : Collected len d s)
    (hd : d.length = len.toNat) : s.rx.state = .readChecksum := h.state.trans (if_neg (by omega))

/-- The right CHK byte (R170). -/
theorem Collected.quiet_checksum {len : Byte} {d : List Byte} {s : State} (h : Collected len d s)
    (hd : d.length = len.toNat) : ∃ t, Quiet [checksum len d] s t ∧ Checked d t := by
  have hst := h.readChecksum hd
  have hdata : rxBytes s.rx.buf s.rx.len.toNat = d := by rw [h.length, ← hd, h.data]
  exact ⟨_, .one ((execRxStep_of_row (i := .rxChkOk _) (by simp [decodeRx, guardsOf, hst, h.fold])).trans
    (if_pos ⟨hst, h.fold.symm⟩)) rfl, rfl, h.length ▸ h.fits, hdata⟩

/-- A frame's first bytes, up to CHK. -/
theorem quiet_upToChecksum {len : Byte} {d : List Byte} {s : State} (h : s.rx.state = .awaitStart)
    (hmax : len.toNat ≤ s.cfg.maxPayload) (hd : d.length = len.toNat) :
    ∃ t, Quiet (stx :: len :: (d ++ [checksum len d])) s t ∧ Checked d t := by
  obtain ⟨u, hq, hu⟩ := quiet_upToData h hmax (Nat.le_of_eq hd)
  obtain ⟨t, hq', ht⟩ := hu.quiet_checksum hd
  exact ⟨t, hq.append hq', ht⟩

/-! ### The step that ends a frame -/

/-- LEN over MAX_PAYLOAD (R165). -/
theorem rejects_length {b : Byte} {s : State} (h : s.rx.state = .readLength) (hmax : s.cfg.maxPayload < b.toNat) :
    execRxStep (some b) s = .next (reject .oversizedFrame s) :=
  (execRxStep_of_row (i := .rxLenOversize b) (by simp [decodeRx, guardsOf, h, hmax])).trans (if_pos ⟨h, hmax⟩)

/-- A wrong CHK byte (R171). -/
theorem Collected.rejects_checksum {len : Byte} {d : List Byte} {b : Byte} {s : State} (h : Collected len d s)
    (hd : d.length = len.toNat) (hb : b ≠ checksum len d) :
    execRxStep (some b) s = .next (reject .checksumMismatch s) := by
  have hst := h.readChecksum hd
  have hb' : b ≠ s.rx.chk := by rwa [h.fold]
  exact (execRxStep_of_row (i := .rxChkBad b) (by simp [decodeRx, guardsOf, hst, hb'])).trans (if_pos ⟨hst, hb'⟩)

/-- A wrong end marker (R173). -/
theorem Checked.rejects_end {d : List Byte} {b : Byte} {s : State} (h : Checked d s) (hb : b ≠ etx) :
    execRxStep (some b) s = .next (reject .framingError s) :=
  (execRxStep_of_row (i := .rxEndBad b) (by simp [decodeRx, h.state, hb])).trans (if_pos ⟨h.state, hb⟩)

/-- The end marker (R172). -/
theorem Checked.delivers {d : List Byte} {s : State} (h : Checked d s) :
    execRxStep (some etx) s = .next (deliver s) :=
  (execRxStep_of_row (i := .rxEndOk) (by simp [decodeRx, h.state])).trans ((if_pos h.state).trans (if_pos h.fits))

/-- The ReceiverContext a delivery leaves (R172, R180). -/
@[simp] theorem deliver_rx (s : State) : (deliver s).rx =
    { s.rx with outcome := .success, state := .awaitStart, chk := 0#8, wcur := 0#8 } := by simp [deliver]

/-- The events of a Send do not depend on the receiver (R75). -/
@[simp] theorem send_history_withRx (k : Queue) (b : Byte) (s : State) (r : ReceiverContext) :
    (send k b (s.withRx r)).history = (send k b s).history :=
  (send_history k b (s.withRx r)).trans (send_history k b s).symm

/-- The events of a delivery: those of the ACK's Send, AckSent and Deliver (R172). -/
theorem deliver_history (s : State) : (deliver s).history = (send s.cfg.topology.responses ack s).history
    ++ [.ackSent, .deliver (rxBytes s.rx.buf s.rx.len.toNat)] := by simp [deliver]

/-- Quiet bytes, a rejected byte and whatever else: where the rejection comes. -/
theorem Quiet.rejected {bs : List Byte} {b : Byte} {s u : State} {reason : RejectReason} (h : Quiet bs s u)
    (hstep : execRxStep (some b) u = .next (reject reason u)) (rest : List Byte) {k : Nat} (hk : k = bs.length) :
    k < (bs ++ b :: rest).length ∧ feedResults ((bs ++ b :: rest).take (k + 1)) s =
      List.replicate k (.rx .none) ++ [.rx (.rejected reason)] := by
  subst hk
  have htake : (bs ++ b :: rest).take (bs.length + 1) = bs ++ [b] := List.take_length_add_append 1
  exact ⟨by simp, htake ▸ h.results_then hstep⟩

/-! ### Agreement with Decode -/

/-- A whole frame is delivered by the step on its last byte (R147). -/
theorem feed_frame {len : Byte} {d : List Byte} {s : State} (hs : s.rx.state = .awaitStart)
    (hmax : len.toNat ≤ s.cfg.maxPayload) (hd : d.length = len.toNat) :
    ∃ u, Checked d u ∧ feedRx (stx :: len :: (d ++ [checksum len d, etx])) s = .next (deliver u)
      ∧ feedResults (stx :: len :: (d ++ [checksum len d, etx])) s =
        List.replicate (d.length + 3) (.rx .none) ++ [.rx .delivered] := by
  obtain ⟨u, hq, hu⟩ := quiet_upToChecksum hs hmax hd
  have hlist : stx :: len :: (d ++ [checksum len d, etx]) = (stx :: len :: (d ++ [checksum len d])) ++ [etx] := by simp
  rw [hlist]
  exact ⟨u, hu, hq.feed_then hu.delivers, by simpa [deliver] using hq.results_then hu.delivers⟩

/-- Settles O26: each shape of a list is quiet up to the byte that decides. -/
theorem receiverAgreesWithDecode : Obligations.ReceiverAgreesWithDecode := by
  unfold Obligations.ReceiverAgreesWithDecode
  intro bs s hs
  simp only [decodeFrame_eq_iff]
  refine ⟨fun p hp => ?ok, fun reason k hk => ?err, fun hinc => ?incomplete⟩
  case ok =>
    cases hp with
    | frame hmax hd =>
      obtain ⟨u, hu, hfeed, hresults⟩ := feed_frame hs hmax hd
      refine ⟨by simpa using hresults, deliver u, (send u.cfg.topology.responses ack u).history ++ [.ackSent], hfeed, ?_⟩
      simp [deliver_history, hu.data]
  case err =>
    obtain ⟨hbad, rfl, hk⟩ | ⟨hbad, rfl, hk⟩ | ⟨hbad, rfl, hk⟩ := hk
    · cases hbad with
      | @oversized len rest hmax =>
        obtain ⟨u, hq, hu, hcfg⟩ := quiet_marker hs
        exact hq.rejected (rejects_length hu (hcfg ▸ hmax)) rest hk
    · cases hbad with
      | @wrongChecksum len d c rest hmax hd hc =>
        obtain ⟨u, hq, hu⟩ := quiet_upToData hs hmax (Nat.le_of_eq hd)
        exact hq.rejected (hu.rejects_checksum hd hc) rest (by simpa [hd] using hk)
    · cases hbad with
      | @wrongEnd len d e rest hmax hd he =>
        obtain ⟨u, hq, hu⟩ := quiet_upToChecksum hs hmax hd
        simpa using hq.rejected (hu.rejects_end he) rest (by simpa [hd] using hk)
  case incomplete =>
    cases hinc with
    | endsAtMarker =>
      obtain ⟨t, hq, ht, -⟩ := quiet_marker hs
      exact ⟨hq.results, t, hq.feed, ht⟩
    | endsInData hmax hd =>
      obtain ⟨t, hq, ht⟩ := quiet_upToData hs hmax hd
      refine ⟨hq.results, t, hq.feed, ht.state.trans ?_⟩
      obtain hlt | heq := Nat.lt_or_eq_of_le hd
      · simp [hlt]
      · simp [heq]
    | endsAtChecksum hmax hd =>
      obtain ⟨t, hq, ht⟩ := quiet_upToChecksum hs hmax hd
      refine ⟨hq.results, t, hq.feed, ht.state.trans ?_⟩
      simp [hd]

end Sys2Proof.Machine
end

section
/-! SUPPORT. The receiver's rows one by one: RX_CREATE, and the exact next state of each transition but the two that store a
DATA byte (R160 to R167, R170 to R174). -/

namespace Sys2Proof.Machine

/-- Settles O15: RX_CREATE puts the initial context in place. -/
theorem rxCreateMakesTheContext : Obligations.RxCreateMakesTheContext := by
  unfold Obligations.RxCreateMakesTheContext
  exact fun s => rfl

/-- Settles O16: RX_IDLE has no guard; the other two rows are taken where their guard holds. -/
theorem idleStartAndStraySteps : Obligations.IdleStartAndStraySteps := by
  unfold Obligations.IdleStartAndStraySteps
  exact ⟨fun c s => rfl, fun s hst => if_pos hst, fun b s hst hb => if_pos ⟨hst, hb⟩⟩

/-- Settles O17: each row is taken where its guard holds, and an oversized LEN byte goes through Reject. -/
theorem lengthByteSteps : Obligations.LengthByteSteps := by
  unfold Obligations.LengthByteSteps
  exact fun s hst => ⟨fun b hmax => if_pos ⟨hst, hmax⟩, if_pos hst, fun b hpos hmax => if_pos ⟨hst, hpos, hmax⟩⟩

/-- When CHK is awaited, rx_chk is the checksum of the whole stored payload (R34, R169). -/
theorem RxInv.chk_eq_checksum {s : State} (h : RxInv s) (hst : s.rx.state = .readChecksum) :
    s.rx.chk = checksum s.rx.len (rxBytes s.rx.buf s.rx.len.toNat) := by
  have hfold := h.chk (by simp [hst, RxState.holdsFrame])
  rwa [h.stored (.inl hst)] at hfold

/-- Settles O19: rx_chk holds the checksum that CODEC_VALIDATE folds anew. -/
theorem checksumByteSteps : Obligations.ChecksumByteSteps := by
  unfold Obligations.ChecksumByteSteps
  refine fun b s hst => ⟨fun hb => if_pos ⟨hst, hb⟩, fun hb => if_pos ⟨hst, hb⟩, fun h => ?validate⟩
  case validate => rw [validateChecksum_eq_true, ← h.chk_eq_checksum hst, eq_comm]

/-- A Send neither reads nor writes the receiver (R75). -/
theorem send_withRx (k : Queue) (b : Byte) (s : State) (r : ReceiverContext) :
    send k b (s.withRx r) = (send k b s).withRx r := by
  have hafter : (s.withRx r).afterSend k = (s.afterSend k).withRx r := by
    unfold State.afterSend
    rw [State.withRx_cfg]
    cases s.cfg.env <;> rfl
  unfold send
  rw [hafter, State.withRx_cfg, State.bytes_withRx, show (s.withRx r).sendAct k = s.sendAct k from rfl]
  split
  · rfl
  · cases s.sendAct k <;> rfl

/-- Everything a delivery does (R172, R180). -/
theorem deliver_eq (s : State) : deliver s = { s with
    rx := { s.rx with outcome := .success, state := .awaitStart, chk := 0#8, wcur := 0#8 }
    chan := (send s.cfg.topology.responses ack s).chan
    env := (send s.cfg.topology.responses ack s).env
    history := (send s.cfg.topology.responses ack s).history
      ++ [.ackSent, .deliver (rxBytes s.rx.buf s.rx.len.toNat)]
    result := .rx .delivered } := by
  apply State.eq_of_fields <;> simp [deliver, send_withRx]

/-- Settles O20: RX_END_OK is the delivery where rx_buf[0..rx_len) lies in rx_buf, RX_END_BAD a Reject. -/
theorem endByteSteps : Obligations.EndByteSteps := by
  unfold Obligations.EndByteSteps
  refine fun s hst => ⟨fun hlen => ⟨deliver s, ?delivers, deliver_eq s⟩, fun hlen => ?stops,
    fun b hb => if_pos ⟨hst, hb⟩⟩
  case delivers => exact (if_pos hst).trans (if_pos hlen)
  case stops => exact (if_pos hst).trans (if_neg (Nat.not_le.mpr hlen))

/-- RX_STEP without a byte is RX_IDLE, in every state code (R162). -/
theorem execRxStep_none (s : State) : execRxStep none s = .next (s.ret (.rx .none)) := by
  have hd : decode (guardsOf s) (rxTsel none s) = .instr (.rxIdle s.rx.state) := by rw [rxTsel, decode_rxWord]; rfl
  exact rxStepAppliesTheMatchingRow none s _ hd

/-- Settles O21: a byte selects RX_ILLEGAL in an unused code, no byte RX_IDLE. -/
theorem unusedRxCodesRaise : Obligations.UnusedRxCodesRaise := by
  unfold Obligations.UnusedRxCodesRaise
  intro c b s hc hst
  have raises : exec (.rxIllegal c b) s = .next (raiseFault .illegalState s) := if_pos ⟨hst, hc⟩
  have hrow : decodeRx (guardsOf s) s.rx.state true b = .instr (.rxIllegal c b) := by
    rw [hst, decodeRx_unused _ hc]
  exact ⟨raises, (execRxStep_of_row hrow).trans raises, execRxStep_none s⟩

end Sys2Proof.Machine
end

section
/-! SUPPORT. What a completed RX step can be: quiet, a rejection, a delivery or a raise; and what it sends (R175 to R177). -/

namespace Sys2Proof.Machine

/-- What an RX step that completes leaves of the state `s`. -/
inductive RxStepped (s : State) : State → Prop where
  | quiet (r : ReceiverContext) : RxStepped s ((s.withRx r).ret (.rx .none))
  | rejected (reason : RejectReason) : RxStepped s (reject reason s)
  | delivered : RxStepped s (deliver s)
  | raised : RxStepped s (raiseFault .illegalState s)

/-- Every RX row leaves one of the four. -/
theorem RxStepped.rxApply (i : Instr) (s : State) : Ensures (RxStepped s) (rxApply i s) := by
  cases i with
  | rxIdle => exact .next (.quiet s.rx)
  | rxStray => exact .guard fun _ => .next (.quiet s.rx)
  | rxStart | rxLenZero | rxLen | rxChkOk => exact .guard fun _ => .next (.quiet _)
  | rxPayload | rxPayloadLast => exact .guard fun _ => .storePayloadByte (.quiet _)
  | rxLenOversize | rxChkBad | rxEndBad => exact .guard fun _ => .next (.rejected _)
  | rxEndOk => exact .guard fun _ => .ite (fun _ => .next .delivered) fun _ => .fault _
  | rxIllegal => exact .guard fun _ => .next .raised
  | _ => exact .refused _

/-- A completed RX step applied an RX row (R161). -/
theorem execRxStep_eq_next {input : Option Byte} {s t : State} (h : execRxStep input s = .next t) :
    ∃ i, decodeRx (guardsOf s) s.rx.state input.isSome (input.getD 0#8) = .instr i ∧ rxApply i s = .next t := by
  obtain ⟨i, hd⟩ := decode_of_execRxStep h
  refine ⟨i, by rwa [rxTsel, decode_rxWord] at hd, ?_⟩
  rwa [execRxStep, hd] at h

theorem RxStepped.execRxStep (input : Option Byte) (s : State) : Ensures (RxStepped s) (execRxStep input s) := by
  intro t ht
  obtain ⟨i, -, hi⟩ := execRxStep_eq_next ht
  exact .rxApply i s t hi

/-- Settles O24: of the four, only Reject returns a rejection. -/
theorem rejectionLeavesNoPartialFrame : Obligations.RejectionLeavesNoPartialFrame := by
  unfold Obligations.RejectionLeavesNoPartialFrame
  intro input s t reason h hresult
  cases RxStepped.execRxStep input s t h with
  | rejected reason' => cases hresult; exact reject_eq reason s
  | quiet | delivered | raised => cases hresult

/-- Settles O25: of the four, only a delivery sends. -/
theorem rxSendsOnlyTheAckOfADelivery : Obligations.RxSendsOnlyTheAckOfADelivery := by
  unfold Obligations.RxSendsOnlyTheAckOfADelivery
  intro input s t h
  cases RxStepped.execRxStep input s t h with
  | delivered => exact .inl ⟨rfl, by rw [deliver_eq], _, deliver_history s⟩
  | quiet r => exact .inr ⟨nofun, rfl, rfl, by simp⟩
  | rejected reason => exact .inr ⟨nofun, rfl, rfl, by simp [reject]⟩
  | raised => exact .inr ⟨nofun, rfl, rfl, by simp [raiseFault]⟩

end Sys2Proof.Machine
end

section
/-! SUPPORT. Self-resynchronisation (R181): every byte inside a frame brings the receiver nearer to AWAIT_START. -/

namespace Sys2Proof.Machine

/-- The most bytes the receiver can still take before it is back in AWAIT_START (R181). -/
def ReceiverContext.bytesLeft (r : ReceiverContext) : Nat :=
  match r.state with
  | .readLength => 258
  | .readPayload => r.len.toNat - r.wcur.toNat + 2
  | .readChecksum => 2
  | .readEnd => 1
  | .awaitStart | .unused5 | .unused6 | .unused7 => 0

theorem ReceiverContext.bytesLeft_le (r : ReceiverContext) : r.bytesLeft ≤ 258 := by
  have := r.len.isLt
  unfold bytesLeft
  split <;> omega

/-- Inside a frame at least one byte is left. -/
theorem RxInv.bytesLeft_pos {s : State} (h : RxInv s) (hst : s.rx.state ≠ .awaitStart) : 0 < s.rx.bytesLeft := by
  have hlegal := h.legal
  unfold ReceiverContext.bytesLeft
  cases hs : s.rx.state with
  | awaitStart => exact absurd hs hst
  | readLength | readPayload | readChecksum | readEnd => simp
  | unused5 | unused6 | unused7 => simp [hs, RxState.isUnused] at hlegal

/-- A receiver of the invariant with fewer bytes left than in `s`. -/
structure Nearer (s t : State) : Prop where
  inv : RxInv t
  fewer : t.rx.bytesLeft < s.rx.bytesLeft

namespace Nearer

variable {s : State}

/-- A step that ends its frame. -/
theorem of_awaitStart {t : State} (h : RxInv s) (hst : s.rx.state ≠ .awaitStart) (ht : RxInv t)
    (hend : t.rx.state = .awaitStart) : Nearer s t where
  inv := ht
  fewer := by simpa [ReceiverContext.bytesLeft, hend] using h.bytesLeft_pos hst

theorem reject (h : RxInv s) (hst : s.rx.state ≠ .awaitStart) (reason : RejectReason) : Nearer s (reject reason s) :=
  .of_awaitStart h hst (h.rejection.congr rfl rfl) rfl

theorem deliver (h : RxInv s) (hst : s.rx.state = .readEnd) : Nearer s (deliver s) :=
  .of_awaitStart h (by simp [hst]) ((h.delivery hst).congr (deliver_rx s) (by simp [deliver_eq])) (by simp)

/-- A DATA byte (R168, R169). -/
theorem byteStored (h : RxInv s) (hst : s.rx.state = .readPayload) (b : Byte) {st : RxState}
    (hnext : st = .readPayload ∧ s.rx.wcur + 1#8 < s.rx.len ∨ st = .readChecksum ∧ s.rx.wcur + 1#8 = s.rx.len) :
    Ensures (Nearer s) (storePayloadByte st b s) := by
  refine .storePayloadByte ⟨(h.byteStored hst b hnext).congr rfl rfl, ?_⟩
  have hcursor := h.cursor hst
  obtain ⟨rfl, -⟩ | ⟨rfl, -⟩ := hnext <;> simp [ReceiverContext.bytesLeft, hst] <;> bv_omega

/-- Every RX row that takes a byte inside a frame. -/
theorem rxApply (h : RxInv s) (hst : s.rx.state ≠ .awaitStart) {i : Instr} (hi : ∀ c, i ≠ .rxIdle c) :
    Ensures (Nearer s) (rxApply i s) := by
  cases i with
  | rxIdle c => exact absurd rfl (hi c)
  | rxStart => exact .guard fun hs => absurd hs hst
  | rxStray => exact .guard fun ⟨hs, _⟩ => absurd hs hst
  | rxLenOversize | rxChkBad | rxEndBad => exact .guard fun _ => .next (.reject h hst _)
  | rxLenZero =>
    exact .guard fun hs => .next ⟨(h.lengthZero hs).congr rfl rfl, by simp [ReceiverContext.bytesLeft, hs]⟩
  | rxLen b =>
    exact .guard fun ⟨hs, hpos, hmax⟩ => .next ⟨(h.length hs hpos hmax).congr rfl rfl, by
      simp [ReceiverContext.bytesLeft, hs]; omega⟩
  | rxPayload b => exact .guard fun ⟨hs, hlt⟩ => byteStored h hs b (.inl ⟨rfl, hlt⟩)
  | rxPayloadLast b => exact .guard fun ⟨hs, heq⟩ => byteStored h hs b (.inr ⟨rfl, heq⟩)
  | rxChkOk =>
    exact .guard fun ⟨hs, _⟩ => .next ⟨(h.checked hs).congr rfl rfl, by simp [ReceiverContext.bytesLeft, hs]⟩
  | rxEndOk => exact .guard fun hs => .ite (fun _ => .next (.deliver h hs)) fun _ => .fault _
  | rxIllegal =>
    refine .guard fun ⟨hs, hc⟩ => ?_
    simp [← hs, h.legal] at hc
  | _ => exact .refused _

end Nearer

/-- With a byte RX_IDLE is not selected (R118). -/
theorem decodeRx_byte_ne_rxIdle {g : Guards} {c : RxState} {b : Byte} {i : Instr}
    (h : decodeRx g c true b = .instr i) (c' : RxState) : i ≠ .rxIdle c' := by
  rintro rfl
  have hV := congrArg tselV (Option.some.inj (encode_of_decodeRx h))
  simp at hV

/-- One byte inside a frame. -/
theorem execRxStep_nearer {s : State} (h : RxInv s) (hst : s.rx.state ≠ .awaitStart) (b : Byte) :
    ∃ t, execRxStep (some b) s = .next t ∧ Nearer s t := by
  obtain ⟨t, -, ht, -⟩ := execRxStep_completes h (some b)
  obtain ⟨i, hrow, hi⟩ := execRxStep_eq_next ht
  exact ⟨t, ht, .rxApply h hst (decodeRx_byte_ne_rxIdle hrow) t hi⟩

/-- Fed a list with at least the bytes left, the receiver is back in AWAIT_START after some first part of it. -/
theorem RxInv.resynchronises {bs : List Byte} {s : State} (h : RxInv s) (hlen : s.rx.bytesLeft ≤ bs.length) :
    ∃ k t, k ≤ bs.length ∧ feedRx (bs.take k) s = .next t ∧ t.rx.state = .awaitStart := by
  induction bs generalizing s with
  | nil =>
    have hst : s.rx.state = .awaitStart :=
      Decidable.byContradiction fun hne => Nat.not_lt.mpr hlen (h.bytesLeft_pos hne)
    exact ⟨0, s, Nat.zero_le _, rfl, hst⟩
  | cons b bs ih =>
    by_cases hst : s.rx.state = .awaitStart
    · exact ⟨0, s, Nat.zero_le _, rfl, hst⟩
    · obtain ⟨u, hu, hnear⟩ := execRxStep_nearer h hst b
      obtain ⟨k, t, hk, hfeed, ht⟩ := ih hnear.inv (by have := hnear.fewer; simp at hlen; omega)
      exact ⟨k + 1, t, Nat.succ_le_succ hk, by simp [feedRx, hu, hfeed], ht⟩

/-- Settles O27: never more than 258 bytes are left. -/
theorem receiverResynchronisesWithin258Bytes : Obligations.ReceiverResynchronisesWithin258Bytes := by
  unfold Obligations.ReceiverResynchronisesWithin258Bytes
  intro bs s h hlen
  obtain ⟨k, t, hk, hback⟩ := h.resynchronises (bs := bs) (hlen ▸ s.rx.bytesLeft_le)
  exact ⟨k, t, hlen ▸ hk, hback⟩

end Sys2Proof.Machine
end

section
/-! SUPPORT. The transmitter's operations one by one: TX_START, TX_DESTROY, and the exact next state of each transition
from INIT, BUILD_AND_ARM and AWAIT_RESPONSE, with Elapsed() (R200, R202 to R205, R209 to R213, R219, R221). -/

namespace Sys2Proof

theorem TxState.isTerminal_iff (c : TxState) : c.isTerminal = true ↔ c = .success ∨ c = .retryExhausted := by
  cases c <;> decide

end Sys2Proof

namespace Sys2Proof.Machine

/-! ### TX_START and TX_DESTROY -/

/-- Settles O28: the two tests of TX_START in the rule's order; past both, the initial context of the payload. -/
theorem txStartCapturesThePayload : Obligations.TxStartCapturesThePayload := by
  unfold Obligations.TxStartCapturesThePayload
  have exec_fits {p : List Byte} (hp : p.length ≤ 255) (s : State) : exec (.txStart p) s =
      if s.txLive then .refused .contextLive else .next (((s.withTx (.initial p)).withTxLive true).ret .nothing) :=
    if_neg (Nat.not_lt.mpr hp)
  refine fun p s => ⟨fun hlong => if_pos hlong, fun hp hlive => ?live, fun hp hfree => ?made⟩
  case live => rw [exec_fits hp, if_pos hlive]
  case made => rw [exec_fits hp, if_neg (by simp [hfree])]; rfl

/-- Settles O29: the terminal states are the two. -/
theorem txDestroyNeedsATerminalState : Obligations.TxDestroyNeedsATerminalState := by
  unfold Obligations.TxDestroyNeedsATerminalState
  exact fun s => ⟨fun hend => if_pos ((TxState.isTerminal_iff _).mpr hend),
    fun hs hr => if_neg fun hend => ((TxState.isTerminal_iff _).mp hend).elim hs hr⟩

/-! ### BUILD_AND_ARM -/

/-- The first-entry action on a payload Encode refuses (R142). -/
theorem firstEntry_tooLong {s : State} (hb : s.tx.built = false) (hlong : 255 < s.tx.payload.length) :
    firstEntry s = .refused .payloadTooLong := by simp [firstEntry, hb, encodeFrame_tooLong hlong]

/-- With attempts left after the first-entry action TX_BUILD_ARM counts one more (R205). -/
theorem exec_txBuildArm {s u : State} (hst : s.tx.state = .buildAndArm) (hu : firstEntry s = .next u)
    (hlim : u.tx.attempts.toNat < u.cfg.retryLimit) : exec .txBuildArm s =
      .next ((u.withTx { u.tx with attempts := u.tx.attempts + 1#8, cursor := 0#9, state := .sending }).ret
        .txContinue) :=
  (if_pos hst).trans ((andThen_of_next hu).trans (if_pos hlim))

/-- With none left TX_BUILD_EXHAUSTED ends the context (R204). -/
theorem exec_txBuildExhausted {s u : State} (hst : s.tx.state = .buildAndArm) (hu : firstEntry s = .next u)
    (hlim : u.cfg.retryLimit ≤ u.tx.attempts.toNat) : exec .txBuildExhausted s =
      .next (((u.withTx { u.tx with state := .retryExhausted, outcome := .retryExhausted }).emit
        (.txDone .retryExhausted)).ret (.tx .done)) :=
  (if_pos hst).trans ((andThen_of_next hu).trans (if_pos hlim))

/-- Settles O30: with the frame built the first-entry action changes nothing. -/
theorem initAndLaterBuildAndArmSteps : Obligations.InitAndLaterBuildAndArmSteps := by
  unfold Obligations.InitAndLaterBuildAndArmSteps
  exact fun s => ⟨fun hst => if_pos hst, fun hst hb hlim => exec_txBuildArm hst (firstEntry_built hb) hlim,
    fun hst hb hlim => exec_txBuildExhausted hst (firstEntry_built hb) hlim⟩

/-- Settles O31: the first-entry action stores the encoded frame and counts no attempt yet. -/
theorem firstBuildAndArmSteps : Obligations.FirstBuildAndArmSteps := by
  unfold Obligations.FirstBuildAndArmSteps
  intro s bs hst hb
  refine ⟨fun he hlim => ⟨Buffer.ofList bs, ?arm, fun j => Buffer.read_ofList j bs⟩,
    fun he hlim => ⟨Buffer.ofList bs, ?exhausted, fun j => Buffer.read_ofList j bs⟩, fun hlong => ⟨?_, ?_⟩⟩
  case arm => exact exec_txBuildArm hst (firstEntry_unbuilt hb he) hlim
  case exhausted => exact exec_txBuildExhausted hst (firstEntry_unbuilt hb he) (Nat.le_of_eq hlim)
  all_goals exact (if_pos hst).trans (by rw [firstEntry_tooLong hb hlong, andThen_refused])

/-! ### AWAIT_RESPONSE -/

/-- In AWAIT_RESPONSE the poll finds the oldest byte of Q_TX_IN (R116). -/
theorem poll_awaitResponse {s : State} (hst : s.tx.state = .awaitResponse) :
    poll s = (s.bytes s.cfg.topology.responses).head? := by simp [poll, hst, received]

/-- Settles O33: each row is taken on the byte it names, which `takeResponse` removes from Q_TX_IN. -/
theorem responseByteSteps : Obligations.ResponseByteSteps := by
  unfold Obligations.ResponseByteSteps
  intro s b rest hst hbytes
  have hpoll : poll s = some b := (poll_awaitResponse hst).trans (congrArg List.head? hbytes)
  have htake : takeResponse s = s.withBytes s.cfg.topology.responses rest := by
    rw [takeResponse, receive, hbytes, List.tail_cons]
  refine ⟨fun hack => (if_pos ⟨hst, hpoll.trans (congrArg some hack)⟩).trans ?_,
    fun hnack => (if_pos ⟨hst, hpoll.trans (congrArg some hnack)⟩).trans ?_,
    fun hack hnack => (if_pos ⟨hst, hpoll, hack, hnack⟩).trans ?_⟩
  all_goals rw [htake]; rfl

/-- Settles O34: without a byte the two rows split on the timeout test. -/
theorem silenceSteps : Obligations.SilenceSteps := by
  unfold Obligations.SilenceSteps
  intro s hst hnil
  have hpoll : poll s = none := (poll_awaitResponse hst).trans (congrArg List.head? hnil)
  exact ⟨fun htimeout => if_pos ⟨hst, hpoll, htimeout⟩, fun hwait => if_pos ⟨hst, hpoll, hwait⟩⟩

/-- Settles O42: adding 2^W and taking the start of the wait away leaves the ticks since, modulo 2^W. -/
theorem elapsedCountsAcrossOneWrap : Obligations.ElapsedCountsAcrossOneWrap := by
  unfold Obligations.ElapsedCountsAcrossOneWrap
  intro s k hstart hk hnow
  have hsum : s.tx.waitStart + k + (2 ^ s.cfg.tickWidth - s.tx.waitStart) = k + 2 ^ s.cfg.tickWidth := by omega
  rw [elapsed, hnow, Nat.mod_eq_of_lt hstart, Nat.mod_add_mod, hsum, Nat.add_mod_right, Nat.mod_eq_of_lt hk]

end Sys2Proof.Machine
end

section
/-! SUPPORT. What a completed TX transition can be, and with it the chain of R201: a transition that goes on writes the
context alone and comes nearer the step's end. -/

namespace Sys2Proof.Machine

/-- What a TX transition that completes leaves of the state `s`. -/
inductive TxStepped (s : State) : State → Prop where
  | continues (x : TransmitterContext) (nearer : x.state.chainRank < s.tx.state.chainRank) :
      TxStepped s ((s.withTx x).ret .txContinue)
  | exhausted (x : TransmitterContext) :
      TxStepped s (((s.withTx x).emit (.txDone .retryExhausted)).ret (.tx .done))
  | sent (b : Byte) (x : TransmitterContext) :
      TxStepped s ((((send s.cfg.topology.frames b s).emit (.txByte b)).withTx x).ret (.tx .running))
  | acknowledged (x : TransmitterContext) (byte : received s.cfg.topology.responses s ≠ none) :
      TxStepped s ((((takeResponse s).withTx x).emit (.txDone .success)).ret (.tx .done))
  | discarded (x : TransmitterContext) (byte : received s.cfg.topology.responses s ≠ none) :
      TxStepped s (((takeResponse s).withTx x).ret (.tx .running))
  | silent (r : TxResult) : TxStepped s (s.ret (.tx r))
  | raised : TxStepped s (raiseFault .illegalState s)

theorem received_of_poll {s : State} {b : Byte} (hst : s.tx.state = .awaitResponse) (hpoll : poll s = some b) :
    received s.cfg.topology.responses s ≠ none := by
  rw [received, ← poll_awaitResponse hst, hpoll]
  nofun

/-- The first-entry action writes the context alone (R203). -/
theorem firstEntry_onlyTx (s : State) : Ensures (fun u => u = s.withTx u.tx) (firstEntry s) := by
  intro u hu
  obtain ⟨-, -, -, hu, -⟩ := firstEntry_eq_next hu
  exact hu

/-- Every TX row leaves one of the seven. -/
theorem TxStepped.txApply (i : Instr) (s : State) : Ensures (TxStepped s) (txApply i s) := by
  cases i with
  | txInit => exact .guard fun hst => .next (.continues _ (by simp [hst, TxState.chainRank]))
  | txAwaitTimeout => exact .guard fun ⟨hst, _⟩ => .next (.continues _ (by simp [hst, TxState.chainRank]))
  | txBuildArm =>
    refine .guard fun hst => .andThen (firstEntry_onlyTx s) fun u hu => .guard fun _ => .next ?_
    rw [hu]
    exact .continues _ (by simp [hst, TxState.chainRank])
  | txBuildExhausted =>
    refine .guard fun _ => .andThen (firstEntry_onlyTx s) fun u hu => .guard fun _ => .next ?_
    rw [hu]
    exact .exhausted _
  | txSend | txSendLast => exact .guard fun _ => .sendFrameByte fun b => .next (.sent b _)
  | txAwaitAck => exact .guard fun ⟨hst, hpoll⟩ => .next (.acknowledged _ (received_of_poll hst hpoll))
  | txAwaitNack => exact .guard fun ⟨hst, hpoll⟩ => .next (.discarded _ (received_of_poll hst hpoll))
  | txAwaitStray => exact .guard fun ⟨hst, hpoll, _⟩ => .next (.discarded s.tx (received_of_poll hst hpoll))
  | txAwaitWait | txTerminal => exact .guard fun _ => .next (.silent _)
  | txIllegal => exact .guard fun _ => .next .raised
  | _ => exact .refused _

theorem TxStepped.txTransition (s : State) : Ensures (TxStepped s) (txTransition s) := by
  unfold Machine.txTransition
  split
  · exact .txApply _ s
  · exact .refused _
  · exact .fault _

/-- A transition that goes on comes nearer the step's end (R201). -/
theorem TxStepped.nearer {s t : State} (h : TxStepped s t) (hr : t.result = .txContinue) :
    t.tx.state.chainRank < s.tx.state.chainRank := by
  cases h with
  | continues x nearer => exact nearer
  | exhausted | sent | acknowledged | discarded | silent | raised => cases hr

/-! ### TX_STEP by its rows -/

/-- "The chain has at most three transitions": a bound above the state's rank is never reached (R201). -/
theorem txChain_bound {n : Nat} {s : State} (hn : s.tx.state.chainRank < n) : txChain (n + 1) s = txChain n s := by
  induction n generalizing s with
  | zero => exact absurd hn (Nat.not_lt_zero _)
  | succ n ih =>
    rw [txChain, txChain]
    cases hs : txTransition s with
    | fault e => rfl
    | refused e => rfl
    | next u =>
      rw [andThen_next, andThen_next]
      split
      · next hr =>
        have hnear := (TxStepped.txTransition s u hs).nearer hr
        exact ih (by omega)
      · rfl

/-- What the word of a TX step selects is a TX row, which `txApply` runs. -/
theorem txApply_of_selected {s : State} {i : Instr} (hd : decode (guardsOf s) (txTsel s) = .instr i) (t : State) :
    txApply i t = exec i t := by
  have hpoll : s.tx.state = .awaitResponse ∨ (poll s).isSome = false := by
    by_cases hst : s.tx.state = .awaitResponse
    · exact .inl hst
    · exact .inr (by rw [poll_eq_none hst]; rfl)
  rw [txTsel, decode_txWord] at hd
  have hword := encode_of_decodeTx hpoll hd
  cases i with
  | txInit | txBuildExhausted | txBuildArm | txSend | txSendLast | txAwaitAck | txAwaitNack | txAwaitStray
  | txAwaitTimeout | txAwaitWait | txTerminal | txIllegal => rfl
  | rxIdle | rxStart | rxStray | rxLenOversize | rxLenZero | rxLen | rxPayload | rxPayloadLast | rxChkOk | rxChkBad
  | rxEndOk | rxEndBad | rxIllegal =>
    have hU := congrArg tselU (Option.some.inj hword)
    simp at hU
  | codecChecksum | codecEncode | codecValidate | codecDecode | rxCreate | rxStep | txStart | txStep | txDestroy
  | harnessCreate | schedRound | schedRun | envInject | envDropNext => cases hword

/-- Settles O36: the transition run first is the one selected, and what is left of the bound is enough for the rest. -/
theorem txStepChainsTransitions : Obligations.TxStepChainsTransitions := by
  unfold Obligations.TxStepChainsTransitions
  intro s t i hd hexec
  have hfirst : txTransition s = .next t := by rw [txTransition, hd]; exact (txApply_of_selected hd s).trans hexec
  have hstep : exec .txStep s = if t.result = .txContinue then txChain 2 t else .next t := andThen_of_next hfirst
  refine ⟨fun hr => by rw [hstep, if_neg hr], fun hr => ?_⟩
  have hnear := (TxStepped.txTransition s t hfirst).nearer hr
  have hrank := s.tx.state.chainRank_lt
  rw [hstep, if_pos hr]
  exact (txChain_bound (by omega)).symm

/-- Settles O37: no state's rank exceeds the chain's bound. -/
theorem txStepCompletes : Obligations.TxStepCompletes := by
  unfold Obligations.TxStepCompletes
  exact fun s hs => txChain_completes hs s.tx.state.chainRank_lt

/-- TX_STEP ends with the row its state, poll and guards select, if that row returns (R201). -/
theorem exec_txStep_ends {s t : State} {i : Instr}
    (hrow : decodeTx (guardsOf s) s.tx.state (poll s).isSome ((poll s).getD 0#8) = .instr i)
    (hexec : exec i s = .next t) (hr : t.result ≠ .txContinue) : exec .txStep s = .next t :=
  (txStepChainsTransitions s t i (by rw [txTsel, decode_txWord, hrow]) hexec).1 hr

/-- TX_STEP goes on from what the selected row leaves, if that row continues (R201). -/
theorem exec_txStep_continues {s t : State} {i : Instr}
    (hrow : decodeTx (guardsOf s) s.tx.state (poll s).isSome ((poll s).getD 0#8) = .instr i)
    (hexec : exec i s = .next t) (hr : t.result = .txContinue) : exec .txStep s = exec .txStep t :=
  (txStepChainsTransitions s t i (by rw [txTsel, decode_txWord, hrow]) hexec).2 hr

/-- Settles O35: such a code alone selects its row, and the row returns or raises. -/
theorem terminalAndUnusedTxCodes : Obligations.TerminalAndUnusedTxCodes := by
  unfold Obligations.TerminalAndUnusedTxCodes
  intro c s hst
  refine ⟨fun hc => ?terminal, fun hc => ?unused⟩
  case terminal =>
    have hexec : exec (.txTerminal c) s = .next { s with result := .tx .done } := if_pos ⟨hst, hc⟩
    exact ⟨hexec, exec_txStep_ends (by rw [hst, decodeTx_terminal _ hc]) hexec nofun⟩
  case unused =>
    have hexec : exec (.txIllegal c) s = .next { s with faulted := true, result := .raised .illegalState } :=
      if_pos ⟨hst, hc⟩
    exact ⟨hexec, exec_txStep_ends (by rw [hst, decodeTx_unused _ hc]) hexec nofun⟩

/-- Settles O39: with a byte polled no TX row reads the elapsed time; the byte picks one of three rows. -/
theorem receivedByteBeatsTheTimeout : Obligations.ReceivedByteBeatsTheTimeout := by
  unfold Obligations.ReceivedByteBeatsTheTimeout
  intro s b rest hst hbytes
  have hpoll : poll s = some b := (poll_awaitResponse hst).trans (congrArg List.head? hbytes)
  obtain ⟨execAck, execNack, execStray⟩ := responseByteSteps s b rest hst hbytes
  have hrest := s.bytes_withBytes_same s.cfg.topology.responses rest
  by_cases hack : b = ack
  · have hstep := exec_txStep_ends (i := .txAwaitAck) (by simp [decodeTx, hst, hpoll, hack]) (execAck hack) nofun
    exact ⟨_, hstep, hrest, rfl, rfl, rfl, fun _ => ⟨rfl, rfl, rfl⟩,
      fun hnack => absurd (hack.symm.trans hnack) (by decide), fun hne => absurd hack hne⟩
  by_cases hnack : b = nack
  · have hstep := exec_txStep_ends (i := .txAwaitNack) (by simp [decodeTx, hst, hpoll, hnack, ack, nack])
      (execNack hnack) nofun
    exact ⟨_, hstep, hrest, rfl, rfl, rfl, fun h => absurd h hack, fun _ => ⟨rfl, rfl, rfl⟩,
      fun _ hne => absurd hnack hne⟩
  · have hstep := exec_txStep_ends (i := .txAwaitStray b) (by simp [decodeTx, hst, hpoll, hack, hnack])
      (execStray hack hnack) nofun
    exact ⟨_, hstep, hrest, rfl, rfl, rfl, fun h => absurd h hack, fun h => absurd h hnack, fun _ _ => ⟨rfl, rfl⟩⟩

end Sys2Proof.Machine
end

section
/-! SUPPORT. The byte a TX step moves: at most one, whichever transitions ran (R217), and STX in the first step of a
context (R202, R203, R205, R207). -/

namespace Sys2Proof.Machine

/-- A Send neither reads nor writes the transmitter or the last result (R75). -/
theorem send_withTx_ret (k : Queue) (b : Byte) (s : State) (x : TransmitterContext) (r : OpResult) :
    send k b ((s.withTx x).ret r) = ((send k b s).withTx x).ret r := by
  have hafter : ((s.withTx x).ret r).afterSend k = ((s.afterSend k).withTx x).ret r := by
    unfold State.afterSend
    rw [State.ret_cfg, State.withTx_cfg]
    cases s.cfg.env <;> rfl
  unfold send
  rw [hafter, State.ret_cfg, State.withTx_cfg, State.bytes_ret, State.bytes_withTx,
    show ((s.withTx x).ret r).sendAct k = s.sendAct k from rfl]
  split
  · rfl
  · cases s.sendAct k <;> rfl

/-- No byte was sent between `s` and `t`: no event since is a TxByte (R20). -/
def NothingSent (s t : State) : Prop := ∀ e ∈ t.history.drop s.history.length, e.sentByte = none

theorem NothingSent.of_history {s t : State} {es : List Event} (h : t.history = s.history ++ es)
    (hes : ∀ e ∈ es, e.sentByte = none) : NothingSent s t := by
  rwa [NothingSent, h, List.drop_left]

/-- The three outcomes of R217. -/
inductive MovesAtMostOneByte (s t : State) : Prop where
  | stays (chan : t.chan = s.chan) (unsent : NothingSent s t)
  | sends (b : Byte) (chan : t.chan = (send s.cfg.topology.frames b s).chan)
      (history : t.history = (send s.cfg.topology.frames b s).history ++ [.txByte b])
  | receives (byte : received s.cfg.topology.responses s ≠ none)
      (chan : t.chan = (receive s.cfg.topology.responses s).chan) (unsent : NothingSent s t)

namespace MovesAtMostOneByte

variable {s t : State}

/-- One transition: the frame byte of SENDING, the polled byte of AWAIT_RESPONSE, or none. -/
theorem of_txStepped (h : TxStepped s t) : MovesAtMostOneByte s t := by
  cases h with
  | continues | silent | raised => exact .stays rfl (.of_history (es := []) (by simp [raiseFault]) nofun)
  | exhausted => exact .stays rfl (.of_history rfl (by simp [Event.sentByte]))
  | sent b => exact .sends b rfl rfl
  | acknowledged x byte => exact .receives byte rfl (.of_history rfl (by simp [Event.sentByte]))
  | discarded x byte => exact .receives byte rfl (.of_history (es := []) (by simp [takeResponse]) nofun)

/-- What moved since a transition that goes on moved since the state before it: such a transition moves nothing. -/
theorem before_continues {x : TransmitterContext} {r : OpResult} (h : MovesAtMostOneByte ((s.withTx x).ret r) t) :
    MovesAtMostOneByte s t := by
  cases h with
  | stays chan unsent => exact .stays chan unsent
  | sends b chan history =>
    rw [send_withTx_ret] at chan history
    exact .sends b chan history
  | receives byte chan unsent => exact .receives byte chan unsent

theorem txChain (n : Nat) (s : State) : Ensures (MovesAtMostOneByte s) (txChain n s) := by
  induction n generalizing s with
  | zero => exact .next (.stays rfl (.of_history (es := []) (by simp) nofun))
  | succ n ih =>
    refine .andThen (TxStepped.txTransition s) fun u hu => .ite (fun hr => ?_) fun _ => .next (of_txStepped hu)
    cases hu with
    | continues x => exact fun t ht => before_continues (ih _ t ht)
    | exhausted | sent | acknowledged | discarded | silent | raised => cases hr

end MovesAtMostOneByte

/-- Settles O40: by induction on the chain; the transition that ends it moves at most one byte, those before it none. -/
theorem txStepMovesAtMostOneByte : Obligations.TxStepMovesAtMostOneByte := by
  unfold Obligations.TxStepMovesAtMostOneByte
  intro s t h
  cases MovesAtMostOneByte.txChain 3 s t h with
  | stays chan unsent => exact .inl ⟨chan, unsent⟩
  | sends b chan history => exact .inr (.inl ⟨b, chan, history⟩)
  | receives byte chan unsent => exact .inr (.inr ⟨byte, chan, unsent⟩)

/-! ### The first step of a context -/

/-- An encoded frame begins with STX (R141). -/
theorem encodeFrame_head {p bs : List Byte} (h : encodeFrame p = some bs) : bs[0]? = some stx := by
  rw [(encodeFrame_eq_some.mp h).2]
  rfl

/-- From INIT with no frame built, one step goes through BUILD_AND_ARM to the first byte of the encoded frame (R202,
R203, R205, R207). -/
theorem exec_txStep_first {s : State} {bs : List Byte} (hst : s.tx.state = .init) (hb : s.tx.built = false)
    (hlim : 0 < s.cfg.retryLimit) (he : encodeFrame s.tx.payload = some bs) : ∃ frame, exec .txStep s = .next { s with
      tx := { s.tx with frame := frame, flen := s.tx.plen.zeroExtend 9 + 4#9, attempts := 1#8, built := true
                        cursor := 1#9, state := .sending }
      chan := (send s.cfg.topology.frames stx s).chan
      env := (send s.cfg.topology.frames stx s).env
      history := (send s.cfg.topology.frames stx s).history ++ [.txByte stx]
      result := .tx .running } := by
  have stepInit := exec_txStep_continues (by simp [decodeTx, hst]) ((initAndLaterBuildAndArmSteps s).1 hst) rfl
  obtain ⟨frame, execArm, hread⟩ :=
    (firstBuildAndArmSteps ((s.withTx { s.tx with state := .buildAndArm }).ret .txContinue) bs rfl hb).1 he hlim
  have stepArm := exec_txStep_continues (by simp [decodeTx, guardsOf, hb, hlim]) execArm rfl
  have hmore : 0#9 + 1#9 < s.tx.plen.zeroExtend 9 + 4#9 := by bv_omega
  have execSend := (sendSteps.1 ((s.withTx { s.tx with frame := frame, flen := s.tx.plen.zeroExtend 9 + 4#9
                                                       attempts := 1#8, built := true, cursor := 0#9
                                                       state := .sending }).ret .txContinue)
    stx rfl ((hread 0).trans (encodeFrame_head he))).1 (by simp) hmore
  have stepSend := exec_txStep_ends (by exact if_pos hmore) execSend nofun
  refine ⟨frame, stepInit.trans (stepArm.trans (stepSend.trans ?_))⟩
  rw [send_withTx_ret]
  rfl

/-- Settles O38: the step's transitions are TX_INIT, TX_BUILD_ARM and TX_SEND. -/
theorem firstTxStepSendsStx : Obligations.FirstTxStepSendsStx := by
  unfold Obligations.FirstTxStepSendsStx
  intro s hs hst hb hlim
  have hlen : s.tx.payload.length ≤ 255 := by have := hs.plen; omega
  obtain ⟨frame, hstep⟩ := exec_txStep_first hst hb hlim (encodeFrame_eq_some.mpr ⟨hlen, rfl⟩)
  exact ⟨_, hstep, rfl, rfl, rfl, rfl, rfl, rfl, rfl⟩

end Sys2Proof.Machine
end

section
/-! SUPPORT. The reset state (R300, R301), and a round by the turns of its two engines (R243). -/

namespace Sys2Proof.Machine

/-- Settles O55: the reference configuration lies within the ranges of R8 to R13, and a harness just created in such a
configuration meets the invariant. -/
theorem resetMeetsTheInvariant : Obligations.ResetMeetsTheInvariant := by
  unfold Obligations.ResetMeetsTheInvariant
  exact State.Inv.created (by decide)

/-- The RX's turn with rx_enabled = 1 is its step on the byte received (R243, R249). -/
theorem rxTurn_enabled (s : State) : rxTurn true s =
    execRxStep (received s.cfg.topology.frames s) (insertionPoint (receive s.cfg.topology.frames s)) := rfl

/-- The RX's turn with rx_enabled = 0: nothing is received and nothing stepped (R248). -/
theorem rxTurn_disabled (s : State) : rxTurn false s = .next (s.ret .nothing) := rfl

/-- The TX's turn with a live context is its step (R243). -/
theorem txTurn_live {s : State} (h : s.txLive = true) : txTurn s = execTxStep s := if_pos h

/-- The TX's turn without a live context steps nothing. -/
theorem txTurn_idle {s : State} (h : s.txLive = false) : txTurn s = .next (s.ret .nothing) := if_neg (by simp [h])

/-- Two turns that complete without a raise make a round: one tick and the two results follow (R243). -/
theorem round_of_turns {en : Bool} {s s1 s2 : State} (h1 : rxTurn en (insertionPoint s) = .next s1)
    (hr1 : s1.raised = false) (h2 : txTurn (insertionPoint s1) = .next s2) (hr2 : s2.raised = false) :
    round en s = .next ((tick (insertionPoint s2)).ret (.round s1.result.rxPart s2.result.txPart)) := by
  rw [round, h1, unlessRaised_next hr1, h2, unlessRaised_next hr2]

/-- Under RELIABLE nothing is inserted around the turns (R82, R243). -/
theorem round_reliable {en : Bool} {s s1 s2 : State} (hrel : s.cfg.env = .reliable) (h1 : rxTurn en s = .next s1)
    (hr1 : s1.raised = false) (h2 : txTurn s1 = .next s2) (hr2 : s2.raised = false) :
    round en s = .next ((tick s2).ret (.round s1.result.rxPart s2.result.txPart)) := by
  have hrel1 : s1.cfg.env = .reliable := (Stepped.rxTurn en s s1 h1).harness.cfg ▸ hrel
  have hrel2 : s2.cfg.env = .reliable := (Stepped.txTurn s1 s2 h2).harness.cfg ▸ hrel1
  have hround := round_of_turns (en := en) (s := s) (by rwa [insertionPoint_reliable hrel]) hr1
    (by rwa [insertionPoint_reliable hrel1]) hr2
  rwa [insertionPoint_reliable hrel2] at hround

/-- Settles O45: under the invariant both turns complete without a raise, and neither engine writes the Clock. -/
theorem roundStepsReceiverThenTransmitterThenClock : Obligations.RoundStepsReceiverThenTransmitterThenClock := by
  unfold Obligations.RoundStepsReceiverThenTransmitterThenClock
  intro en s hs
  obtain ⟨s1, h1, hr1⟩ := rxTurn_completes hs.insertionPoint en
  have step1 : Stepped s s1 := (Stepped.insertionPoint s).trans (.rxTurn en _ s1 h1)
  obtain ⟨s2, h2, hr2⟩ := txTurn_completes (step1.inv hs).insertionPoint
  have step2 : Stepped s s2 := step1.trans ((Stepped.insertionPoint s1).trans (.txTurn _ s2 h2))
  have hlive : (insertionPoint s1).txLive = s.txLive := by simp [step1.harness.txLive]
  refine ⟨s1, s2, _, fun hen => ?enabled, fun hen => ?disabled, fun hl => ?live, fun hl => ?idle,
    round_of_turns h1 hr1 h2 hr2, ?next⟩
  case enabled =>
    subst hen
    rwa [rxTurn_enabled, insertionPoint_cfg] at h1
  case disabled =>
    subst hen
    exact (Host.Outcome.next.inj h1).symm
  case live => rwa [txTurn_live (hlive.trans hl)] at h2
  case idle =>
    rw [txTurn_idle (hlive.trans hl)] at h2
    exact (Host.Outcome.next.inj h2).symm
  case next =>
    have hnow : (insertionPoint s2).now = s.now := by simp [step2.harness.now]
    have hcfg : (insertionPoint s2).cfg = s.cfg := by simp [step2.harness.cfg]
    rw [← hnow, ← hcfg]
    rfl

end Sys2Proof.Machine
end

section
/-! SUPPORT. The iteration budget of R311: over a channel that carries nothing but frame bytes and ACKs, the rounds a message
can still take get fewer in every round, whatever the RX does. -/

namespace Sys2Proof.Machine

/-! ### The rounds left -/

/-- The rounds of an attempt that no response ends: one for each frame byte but the last, then the wait (R311). -/
def State.attemptRounds (s : State) : Nat := s.tx.payload.length + 4 - 1 + max s.cfg.timeout 1

/-- The rounds the attempts not yet begun can take. -/
def State.laterRounds (s : State) : Nat := (s.cfg.retryLimit - s.tx.attempts.toNat) * s.attemptRounds

/-- The most rounds until the TX is terminal: what is left of this attempt, the later attempts, and the round that ends the
message (R311). -/
def State.roundsLeft (s : State) : Nat :=
  match s.tx.state with
  | .init | .buildAndArm => s.laterRounds + 1
  | .sending => s.tx.flen.toNat - s.tx.cursor.toNat + max s.cfg.timeout 1 + s.laterRounds
  | .awaitResponse => max s.cfg.timeout 1 - elapsed s + 1 + s.laterRounds
  | .success | .retryExhausted | .unused6 | .unused7 => 0

section states
variable {s : State}

theorem roundsLeft_init (h : s.tx.state = .init) : s.roundsLeft = s.laterRounds + 1 := by simp [State.roundsLeft, h]

theorem roundsLeft_buildAndArm (h : s.tx.state = .buildAndArm) : s.roundsLeft = s.laterRounds + 1 := by
  simp [State.roundsLeft, h]

theorem roundsLeft_sending (h : s.tx.state = .sending) :
    s.roundsLeft = s.tx.flen.toNat - s.tx.cursor.toNat + max s.cfg.timeout 1 + s.laterRounds := by
  simp [State.roundsLeft, h]

theorem roundsLeft_awaitResponse (h : s.tx.state = .awaitResponse) :
    s.roundsLeft = max s.cfg.timeout 1 - elapsed s + 1 + s.laterRounds := by simp [State.roundsLeft, h]

theorem roundsLeft_terminal (h : s.tx.state.isTerminal = true) : s.roundsLeft = 0 := by
  obtain hst | hst := (TxState.isTerminal_iff _).mp h <;> simp [State.roundsLeft, hst]

/-- The rounds left are read off the transmitter, the configuration and the Clock. -/
theorem roundsLeft_congr {t : State} (htx : t.tx = s.tx) (hcfg : t.cfg = s.cfg) (hnow : t.now = s.now) :
    t.roundsLeft = s.roundsLeft := by
  simp only [State.roundsLeft, State.laterRounds, State.attemptRounds, elapsed, htx, hcfg, hnow]

/-- A message that is not over has rounds left. -/
theorem roundsLeft_pos (h : TxInv s) (hact : s.tx.state.isTerminal = false) : 0 < s.roundsLeft := by
  have hlegal := h.legal
  cases hst : s.tx.state with
  | init => rw [roundsLeft_init hst]; exact Nat.succ_pos _
  | buildAndArm => rw [roundsLeft_buildAndArm hst]; exact Nat.succ_pos _
  | sending => rw [roundsLeft_sending hst]; omega
  | awaitResponse => rw [roundsLeft_awaitResponse hst]; omega
  | success | retryExhausted => simp [hst, TxState.isTerminal] at hact
  | unused6 | unused7 => simp [hst, TxState.isUnused] at hlegal

/-- A new message has the rounds of R311's bound left. -/
theorem roundsLeft_new (h : TxInv s) (hst : s.tx.state = .init) (hb : s.tx.built = false) :
    s.roundsLeft = roundBound s.cfg s.tx.payload.length := by
  obtain ⟨-, -, -, hatt, -⟩ := h.unbuilt hb
  simp [roundsLeft_init hst, State.laterRounds, State.attemptRounds, roundBound, hatt]

/-- A built frame has four bytes more than its payload (R41, R105). -/
theorem TxInv.flen_eq (h : TxInv s) (hb : s.tx.built = true) : s.tx.flen.toNat = s.tx.payload.length + 4 := by
  obtain ⟨bs, he, -, hflen⟩ := h.frame hb
  rw [hflen, encodeFrame_length he]

/-- An attempt that begins takes its rounds from those of the later attempts. -/
theorem laterRounds_begin {limit attempts n d : Nat} (h : attempts < limit) (hn : 0 < n) :
    n + d + (limit - (attempts + 1)) * (n - 1 + d) = (limit - attempts) * (n - 1 + d) + 1 := by
  have hleft : limit - attempts = limit - (attempts + 1) + 1 := by omega
  rw [hleft, Nat.succ_mul]
  omega

end states

/-! ### Elapsed() and a tick -/

/-- The Clock stands Elapsed() ticks after the start of the wait (R221). -/
theorem now_eq_waitStart_add_elapsed {s : State} (hwait : s.tx.waitStart < 2 ^ s.cfg.tickWidth)
    (hclock : s.now < 2 ^ s.cfg.tickWidth) : s.now = (s.tx.waitStart + elapsed s) % 2 ^ s.cfg.tickWidth := by
  have hsum : s.tx.waitStart + (s.now + (2 ^ s.cfg.tickWidth - s.tx.waitStart)) = s.now + 2 ^ s.cfg.tickWidth := by
    omega
  rw [elapsed, Nat.mod_eq_of_lt hwait, Nat.add_mod_mod, hsum, Nat.add_mod_right, Nat.mod_eq_of_lt hclock]

/-- A tick counts in Elapsed() while the count fits the Clock (R221, R242). -/
theorem elapsed_tick {s : State} (hwait : s.tx.waitStart < 2 ^ s.cfg.tickWidth) (hclock : s.now < 2 ^ s.cfg.tickWidth)
    (hfits : elapsed s + 1 < 2 ^ s.cfg.tickWidth) : elapsed (tick s) = elapsed s + 1 := by
  refine elapsedCountsAcrossOneWrap (tick s) (elapsed s + 1) hwait hfits ?_
  calc (tick s).now = (s.now + 1) % 2 ^ s.cfg.tickWidth := rfl
    _ = ((s.tx.waitStart + elapsed s) % 2 ^ s.cfg.tickWidth + 1) % 2 ^ s.cfg.tickWidth := by
      rw [← now_eq_waitStart_add_elapsed hwait hclock]
    _ = (s.tx.waitStart + (elapsed s + 1)) % 2 ^ s.cfg.tickWidth := by rw [Nat.mod_add_mod, Nat.add_assoc]

/-- A wait that starts now has lasted no tick (R208, R221). -/
theorem elapsed_of_waitStart_eq_now {s : State} (h : s.tx.waitStart = s.now) (hclock : s.now < 2 ^ s.cfg.tickWidth) :
    elapsed s = 0 :=
  elapsedCountsAcrossOneWrap s 0 (h ▸ hclock) (Nat.two_pow_pos _) (by rw [h, Nat.add_zero, Nat.mod_eq_of_lt hclock])

/-! ### A channel that carries nothing but frame bytes and ACKs -/

/-- The premise of R311: a live message under DUPLEX and RELIABLE, with nothing but ACKs in REV. -/
structure Undisturbed (s : State) : Prop where
  inv : s.Inv
  live : s.txLive = true
  duplex : s.cfg.topology = .duplex
  reliable : s.cfg.env = .reliable
  acks : ∀ b ∈ s.bytes .rev, b = ack

namespace Undisturbed

variable {s t : State}

theorem of_stepped (h : Undisturbed s) (hst : Stepped s t) (hacks : ∀ b ∈ t.bytes .rev, b = ack) : Undisturbed t where
  inv := hst.inv h.inv
  live := hst.harness.txLive.trans h.live
  duplex := hst.harness.cfg ▸ h.duplex
  reliable := hst.harness.cfg ▸ h.reliable
  acks := hacks

theorem withIter (h : Undisturbed s) (n : Nat) : Undisturbed (s.withIter n) :=
  ⟨(inv_withIter s n).mpr h.inv, h.live, h.duplex, h.reliable, h.acks⟩

/-- A queue can hold a byte (R11). -/
theorem one_le_capacity (h : Undisturbed s) : 1 ≤ s.cfg.capacity := by
  obtain ⟨-, -, -, -, hcapacity⟩ := h.inv.harness.range
  exact hcapacity

/-- The response queue is REV (R77). -/
theorem responses (h : Undisturbed s) : s.cfg.topology.responses = .rev := by rw [h.duplex]; rfl

/-- Frame bytes travel on FWD (R77). -/
theorem frames (h : Undisturbed s) : s.cfg.topology.frames = .fwd := by rw [h.duplex]; rfl

/-- The TX polls nothing but ACKs. -/
theorem poll_eq_ack (h : Undisturbed s) (hst : s.tx.state = .awaitResponse) {b : Byte} (hp : poll s = some b) :
    b = ack := by
  rw [poll_awaitResponse hst, h.responses] at hp
  exact h.acks b (List.mem_of_head? hp)

/-- An RX step adds nothing but an ACK to REV (R176, R177) and leaves the transmitter alone. -/
theorem execRxStep (h : Undisturbed s) (input : Option Byte) :
    Ensures (fun t => Undisturbed t ∧ t.tx = s.tx) (execRxStep input s) := by
  intro t ht
  have hstepped := Stepped.execRxStep input s t ht
  cases RxStepped.execRxStep input s t ht with
  | quiet | rejected | raised => exact ⟨h.of_stepped hstepped h.acks, rfl⟩
  | delivered =>
    refine ⟨h.of_stepped hstepped fun b hb => ?_, by simp [deliver_eq]⟩
    have hsent : (deliver s).bytes .rev = (send .rev ack s).bytes .rev := by
      rw [deliver_eq, h.responses]
      rfl
    rw [hsent] at hb
    by_cases hroom : (s.bytes .rev).length < s.cfg.capacity
    · rw [send_reliable h.reliable hroom, State.bytes_withBytes_same, List.mem_append, List.mem_singleton] at hb
      exact hb.elim (h.acks b) id
    · rw [send_full (Nat.not_lt.mp hroom), State.bytes_emit, State.bytes_afterSend] at hb
      exact h.acks b hb

theorem rxTurn (h : Undisturbed s) (en : Bool) : Ensures (fun t => Undisturbed t ∧ t.tx = s.tx) (rxTurn en s) := by
  cases en with
  | false => exact .next ⟨h.of_stepped (.ret s .nothing) h.acks, rfl⟩
  | true =>
    have hrec : Undisturbed (receive .fwd s) :=
      h.of_stepped (.receive .fwd s) (by rw [receive_bytes_other _ _ (by decide)]; exact h.acks)
    rw [rxTurn_enabled, h.frames, insertionPoint_reliable (s := receive .fwd s) h.reliable]
    exact hrec.execRxStep _

/-- A TX transition sends on FWD and takes from REV. -/
theorem txTransition (h : Undisturbed s) : Ensures Undisturbed (txTransition s) := by
  intro t ht
  refine h.of_stepped (Stepped.txTransition s t ht) ?_
  have htake : ∀ b ∈ (takeResponse s).bytes .rev, b = ack := fun b hb => by
    rw [takeResponse, h.responses, receive_bytes_same] at hb
    exact h.acks b (List.mem_of_mem_tail hb)
  cases TxStepped.txTransition s t ht with
  | continues | exhausted | silent | raised => exact h.acks
  | sent b x =>
    rw [h.frames]
    exact (send_bytes_other .fwd b s (j := .rev) (by decide)).symm ▸ h.acks
  | acknowledged | discarded => exact htake

end Undisturbed

/-! ### The TX's step -/

/-- A transition of a message that is not over ends its step, with fewer rounds left after the tick, or goes on with no
more. -/
inductive Progresses (s t : State) : Prop where
  | ends (result : t.result ≠ .txContinue) (fewer : (tick t).roundsLeft < s.roundsLeft)
  | continues (result : t.result = .txContinue) (active : t.tx.state.isTerminal = false)
      (noMore : t.roundsLeft ≤ s.roundsLeft)

namespace Progresses

variable {s : State}

/-- Going on to BUILD_AND_ARM (R202, R212). -/
theorem toBuildAndArm (h : s.tx.state = .init ∨ s.tx.state = .awaitResponse) :
    Progresses s ((s.withTx { s.tx with state := .buildAndArm }).ret .txContinue) := by
  refine .continues rfl rfl ?_
  have hlater : ((s.withTx { s.tx with state := .buildAndArm }).ret .txContinue).laterRounds = s.laterRounds := rfl
  rw [roundsLeft_buildAndArm (by rfl), hlater]
  obtain hst | hst := h
  · exact Nat.le_of_eq (roundsLeft_init hst).symm
  · rw [roundsLeft_awaitResponse hst]
    omega

/-- A step that leaves the TX terminal. -/
theorem finishes {t : State} (h : TxInv s) (hact : s.tx.state.isTerminal = false)
    (hend : t.tx.state.isTerminal = true) (hr : t.result ≠ .txContinue) : Progresses s t := by
  refine .ends hr ?_
  rw [roundsLeft_terminal (s := tick t) hend]
  exact roundsLeft_pos h hact

/-- The first-entry action leaves the rounds left (R203). -/
theorem firstEntry (h : TxInv s) (hst : s.tx.state = .buildAndArm) :
    Ensures (fun u => TxInv u ∧ u.tx.built = true ∧ u.cfg = s.cfg ∧ u.laterRounds = s.laterRounds) (firstEntry s) := by
  intro u hu
  obtain ⟨hb, -, hpayload, hus, hsame⟩ := firstEntry_eq_next hu
  have hcfg : u.cfg = s.cfg := by rw [hus]
  have hatt : u.tx.attempts = s.tx.attempts := by
    cases hbs : s.tx.built with
    | true => rw [hsame hbs]
    | false =>
      obtain ⟨-, -, -, hzero, -⟩ := h.unbuilt hbs
      rw [(firstEntry_guards s u hu).1, hzero]
      simp [guardsOf, hbs]
  exact ⟨h.firstEntry hst u hu, hb, hcfg, by simp only [State.laterRounds, State.attemptRounds, hpayload, hcfg, hatt]⟩

/-- TX_BUILD_ARM (R205): the attempt's rounds come out of the later ones. -/
theorem armed {u : State} (h : TxInv u) (hb : u.tx.built = true) (hlater : u.laterRounds + 1 ≤ s.roundsLeft)
    (hlim : u.tx.attempts.toNat < u.cfg.retryLimit) (hrange : u.cfg.retryLimit ≤ 255) :
    Progresses s
      ((u.withTx { u.tx with attempts := u.tx.attempts + 1#8, cursor := 0#9, state := .sending }).ret .txContinue) := by
  refine .continues rfl rfl (Nat.le_trans (Nat.le_of_eq ?_) hlater)
  have hsucc : (u.tx.attempts + 1#8).toNat = u.tx.attempts.toNat + 1 := by rw [BitVec.toNat_add]; simp; omega
  rw [roundsLeft_sending (by rfl)]
  simpa [State.laterRounds, State.attemptRounds, hsucc, h.flen_eq hb] using laterRounds_begin hlim (Nat.succ_pos _)

/-- TX_SEND (R207): one byte fewer. -/
theorem sent {t : State} (h : TxInv s) (hst : s.tx.state = .sending) (hlt : s.tx.cursor + 1#9 < s.tx.flen)
    (htx : t.tx = { s.tx with cursor := s.tx.cursor + 1#9 }) (hcfg : t.cfg = s.cfg)
    (hr : t.result ≠ .txContinue) : Progresses s t := by
  refine .ends hr ?_
  have hcursor := h.sending hst
  have hlater : (tick t).laterRounds = s.laterRounds := by
    simp only [State.laterRounds, State.attemptRounds, tick, State.withNow_tx, State.withNow_cfg, htx, hcfg]
  rw [roundsLeft_sending hst, roundsLeft_sending (s := tick t) (by simp [tick, htx, hst]), hlater]
  simp only [tick, State.withNow_tx, State.withNow_cfg, htx, hcfg]
  bv_omega

/-- TX_SEND_LAST (R208): after the tick one round of the wait is over. -/
theorem sentLast {t : State} (h : s.Inv) (hst : s.tx.state = .sending) (hnow : t.now = s.now) (hcfg : t.cfg = s.cfg)
    (htx : t.tx = { s.tx with cursor := s.tx.cursor + 1#9, waitStart := s.now, state := .awaitResponse })
    (hr : t.result ≠ .txContinue) : Progresses s t := by
  refine .ends hr ?_
  have hcursor := BitVec.lt_def.mp (h.tx.sending hst)
  have hlater : (tick t).laterRounds = s.laterRounds := by
    simp only [State.laterRounds, State.attemptRounds, tick, State.withNow_tx, State.withNow_cfg, htx, hcfg]
  have hclock : t.now < 2 ^ t.cfg.tickWidth := by rw [hnow, hcfg]; exact h.harness.clock
  have hwait : t.tx.waitStart = t.now := by rw [htx, hnow]
  have hzero := elapsed_of_waitStart_eq_now hwait hclock
  obtain ⟨hwidth, -⟩ := h.harness.range
  have hfits : 1 < 2 ^ t.cfg.tickWidth := hcfg ▸ Nat.one_lt_two_pow (Nat.ne_of_gt hwidth)
  have hone := elapsed_tick (hwait ▸ hclock) hclock (by rw [hzero]; exact hfits)
  rw [roundsLeft_sending hst, roundsLeft_awaitResponse (s := tick t) (by simp [tick, htx]), hlater, hone, hzero,
    show (tick t).cfg = s.cfg from hcfg]
  omega

/-- TX_AWAIT_WAIT (R213): one round of the wait fewer. -/
theorem waited (h : s.Inv) (hst : s.tx.state = .awaitResponse) (hlt : elapsed s < s.cfg.timeout) {r : OpResult}
    (hr : r ≠ .txContinue) : Progresses s (s.ret r) := by
  refine .ends hr ?_
  obtain ⟨-, htimeout, -⟩ := h.harness.range
  have htick := elapsed_tick (s := s.ret r) h.tx.wait h.harness.clock (Nat.lt_of_le_of_lt hlt htimeout)
  have hlater : (tick (s.ret r)).laterRounds = s.laterRounds := rfl
  rw [roundsLeft_awaitResponse hst, roundsLeft_awaitResponse (s := tick (s.ret r)) hst, hlater, htick,
    show elapsed (s.ret r) = elapsed s from rfl, show (tick (s.ret r)).cfg = s.cfg from rfl]
  omega

/-- Every TX row of a message that is not over. -/
theorem txApply (h : Undisturbed s) (hact : s.tx.state.isTerminal = false) (i : Instr) :
    Ensures (Progresses s) (txApply i s) := by
  obtain ⟨-, -, hlimit, -, -⟩ := h.inv.harness.range
  cases i with
  | txInit => exact .guard fun hst => .next (toBuildAndArm (.inl hst))
  | txBuildExhausted =>
    exact .guard fun hst => .andThen (firstEntry h.inv.tx hst) fun u _ => .guard fun _ =>
      .next (finishes h.inv.tx hact rfl nofun)
  | txBuildArm =>
    refine .guard fun hst => .andThen (firstEntry h.inv.tx hst) fun u ⟨hu, hb, hcfg, hlater⟩ => .guard fun hlim =>
      .next (armed hu hb (Nat.le_of_eq ?_) hlim (hcfg ▸ hlimit))
    rw [roundsLeft_buildAndArm hst, hlater]
  | txSend => exact .guard fun ⟨hst, hlt⟩ => .sendFrameByte fun b => .next (sent h.inv.tx hst hlt rfl (by simp) nofun)
  | txSendLast =>
    exact .guard fun ⟨hst, _⟩ => .sendFrameByte fun b => .next (sentLast h.inv hst (by simp) (by simp) (by simp) nofun)
  | txAwaitAck => exact .guard fun _ => .next (finishes h.inv.tx hact rfl nofun)
  | txAwaitNack => exact .guard fun ⟨hst, hp⟩ => absurd (h.poll_eq_ack hst hp) (by decide)
  | txAwaitStray => exact .guard fun ⟨hst, hp, hne, _⟩ => absurd (h.poll_eq_ack hst hp) hne
  | txAwaitTimeout => exact .guard fun ⟨hst, _⟩ => .next (toBuildAndArm (.inr hst))
  | txAwaitWait => exact .guard fun ⟨hst, _, hlt⟩ => .next (waited h.inv hst hlt nofun)
  | txTerminal =>
    refine .guard fun ⟨hst, hc⟩ => ?_
    simp [← hst, hact] at hc
  | txIllegal =>
    refine .guard fun ⟨hst, hc⟩ => ?_
    simp [← hst, h.inv.tx.legal] at hc
  | _ => exact .refused _

theorem txTransition (h : Undisturbed s) (hact : s.tx.state.isTerminal = false) :
    Ensures (Progresses s) (txTransition s) := by
  unfold Machine.txTransition
  split
  · exact txApply h hact _
  · exact .refused _
  · exact .fault _

end Progresses

/-- A TX step leaves fewer rounds, after the tick: its transitions that go on leave no more, the one that ends it fewer
(R201). -/
theorem txChain_fewer {n : Nat} {s : State} (h : Undisturbed s) (hact : s.tx.state.isTerminal = false)
    (hn : s.tx.state.chainRank < n) :
    Ensures (fun t => Undisturbed t ∧ (tick t).roundsLeft < s.roundsLeft) (txChain n s) := by
  induction n generalizing s with
  | zero => exact absurd hn (Nat.not_lt_zero _)
  | succ n ih =>
    intro t ht
    obtain ⟨u, hu, hut⟩ := andThen_eq_next ht
    have hundisturbed := h.txTransition u hu
    cases Progresses.txTransition h hact u hu with
    | ends hr hfewer =>
      rw [if_neg hr] at hut
      cases hut
      exact ⟨hundisturbed, hfewer⟩
    | continues hr hact' hnoMore =>
      rw [if_pos hr] at hut
      have hnear := (TxStepped.txTransition s u hu).nearer hr
      obtain ⟨htu, hfewer⟩ := ih hundisturbed hact' (by omega) t hut
      exact ⟨htu, Nat.lt_of_lt_of_le hfewer hnoMore⟩

/-! ### A round and a run -/

/-- A round of a message that is not over completes and leaves fewer rounds, enabled or not (R243). -/
theorem round_fewer {s : State} (h : Undisturbed s) (hact : s.tx.state.isTerminal = false) (en : Bool) :
    ∃ t, round en s = .next t ∧ t.raised = false ∧ Undisturbed t ∧ t.iter = s.iter
      ∧ t.roundsLeft < s.roundsLeft := by
  obtain ⟨s1, h1, hr1⟩ := rxTurn_completes h.inv en
  obtain ⟨hs1, htx⟩ := h.rxTurn en s1 h1
  have step1 := Stepped.rxTurn en s s1 h1
  have hsame : s1.roundsLeft = s.roundsLeft := roundsLeft_congr htx step1.harness.cfg step1.harness.now
  obtain ⟨s2, h2, hr2⟩ := txTurn_completes hs1.inv
  have step2 := Stepped.txTurn s1 s2 h2
  obtain ⟨hs2, hfewer⟩ : Undisturbed s2 ∧ (tick s2).roundsLeft < s1.roundsLeft := by
    rw [txTurn_live hs1.live] at h2
    exact txChain_fewer hs1 (htx ▸ hact) s1.tx.state.chainRank_lt s2 h2
  refine ⟨_, round_reliable h.reliable h1 hr1 h2 hr2, rfl, ?_, (step1.trans step2).harness.iter, hsame ▸ hfewer⟩
  exact ⟨(inv_ret _ _).mpr hs2.inv.tick, hs2.live, hs2.duplex, hs2.reliable, hs2.acks⟩

/-- A run with a budget of at least the rounds left ends with the TX terminal, within the rounds left (R246, R311). -/
theorem runLoop_terminates {n : Nat} {s : State} (h : Undisturbed s) (hn : s.roundsLeft ≤ n) (en : List Bool) :
    ∃ t, runLoop n en s = .next t ∧ t.raised = false ∧ t.tx.state.isTerminal = true
      ∧ t.iter ≤ s.iter + s.roundsLeft := by
  induction n generalizing s en with
  | zero =>
    cases hterm : s.tx.state.isTerminal with
    | true => exact ⟨_, runLoop_terminal hterm 0 en, rfl, hterm, Nat.le_add_right _ _⟩
    | false => exact absurd hn (Nat.not_le.mpr (roundsLeft_pos h.inv.tx hterm))
  | succ n ih =>
    cases hterm : s.tx.state.isTerminal with
    | true => exact ⟨_, runLoop_terminal hterm _ en, rfl, hterm, Nat.le_add_right _ _⟩
    | false =>
      obtain ⟨u, hu, hr, hundisturbed, hiter, hfewer⟩ := round_fewer h hterm (nextEnabled en)
      have hleft : (u.withIter (u.iter + 1)).roundsLeft = u.roundsLeft := roundsLeft_congr rfl rfl rfl
      obtain ⟨t, ht, htr, hterm', hle⟩ := ih (hundisturbed.withIter (u.iter + 1)) (by omega) en.tail
      refine ⟨t, (runLoop_round hterm hu hr n).trans ht, htr, hterm', ?_⟩
      rw [State.withIter_iter, hleft] at hle
      omega

end Sys2Proof.Machine
end

section
/-! SUPPORT. Why no bound exists under LOSSY (R309, R311): an environment that inserts a stray byte at every insertion point
hands the TX a byte at every poll, and the timeout is never tested. -/

namespace Sys2Proof.Machine

/-- A byte that is no response. -/
def strayByte : Byte := 0x41#8

/-- The TX awaits a response of which REV holds nothing but stray bytes, FWD is empty, and the environment inserts one more
stray byte wherever it may. -/
structure Storm (s : State) : Prop where
  lossy : s.cfg.env = .lossy
  duplex : s.cfg.topology = .duplex
  room : 1 ≤ s.cfg.capacity
  live : s.txLive = true
  awaiting : s.tx.state = .awaitResponse
  quiet : s.bytes .fwd = []
  strays : ∀ b ∈ s.bytes .rev, b = strayByte
  unlisted : s.env.inserts = []
  endless : s.env.endless = .steady .pass [(.rev, strayByte)]

namespace Storm

variable {s : State}

theorem ret (h : Storm s) (r : OpResult) : Storm (s.ret r) :=
  ⟨h.lossy, h.duplex, h.room, h.live, h.awaiting, h.quiet, h.strays, h.unlisted, h.endless⟩

theorem tick (h : Storm s) : Storm (tick s) :=
  ⟨h.lossy, h.duplex, h.room, h.live, h.awaiting, h.quiet, h.strays, h.unlisted, h.endless⟩

theorem withIter (h : Storm s) (n : Nat) : Storm (s.withIter n) :=
  ⟨h.lossy, h.duplex, h.room, h.live, h.awaiting, h.quiet, h.strays, h.unlisted, h.endless⟩

/-- Other stray bytes in REV. -/
theorem withRev (h : Storm s) {bs : List Byte} (hbs : ∀ b ∈ bs, b = strayByte) : Storm (s.withBytes .rev bs) :=
  ⟨h.lossy, h.duplex, h.room, h.live, h.awaiting, h.quiet, hbs, h.unlisted, h.endless⟩

/-- Every insertion point tries to insert one stray byte and uses up no draw (R82 (c), log entry 7). -/
theorem insertionPoint_eq (h : Storm s) : insertionPoint s = insertByte s (.rev, strayByte) := by
  have hnext : s.env.nextInsert = [(.rev, strayByte)] := by simp [Environment.nextInsert, h.unlisted, h.endless]
  have hafter : s.env.afterInsert = s.env := by simp [Environment.afterInsert, h.unlisted, h.endless]
  rw [insertionPoint_lossy h.lossy, hnext, hafter]
  rfl

/-- After an insertion point REV is not empty. -/
theorem insertionPoint (h : Storm s) : Storm (insertionPoint s) ∧ (insertionPoint s).bytes .rev ≠ [] := by
  rw [h.insertionPoint_eq]
  constructor
  · rcases insertByte_cases s (.rev, strayByte) with he | ⟨-, -, he⟩ <;> rw [he]
    · exact h
    · exact h.withRev fun b hb => (List.mem_append.mp hb).elim (h.strays b) List.mem_singleton.mp
  · have hroom := h.room
    by_cases hfull : (s.bytes .rev).length < s.cfg.capacity
    · simp [insertByte_bytes, h.duplex, Queue.isIn, hfull]
    · have hpos : 0 < (s.bytes .rev).length := by omega
      simpa [insertByte_bytes, hfull] using List.length_pos_iff.mp hpos

/-- The RX finds nothing to read, enabled or not. -/
theorem rxTurn (h : Storm s) (en : Bool) : ∃ t, rxTurn en s = .next t ∧ t.raised = false ∧ Storm t := by
  cases en with
  | false => exact ⟨_, rxTurn_disabled s, rfl, h.ret .nothing⟩
  | true =>
    have hframes : s.cfg.topology.frames = .fwd := by rw [h.duplex]; rfl
    have hnone : received .fwd s = none := by rw [received, h.quiet]; rfl
    refine ⟨_, ?_, rfl, h.insertionPoint.1.ret (.rx .none)⟩
    rw [rxTurn_enabled, hframes, hnone, receive_empty h.quiet, execRxStep_none]

/-- The TX takes a stray byte and waits on (R211, R214). -/
theorem txTurn (h : Storm s) (hrev : s.bytes .rev ≠ []) : ∃ t, txTurn s = .next t ∧ t.raised = false ∧ Storm t := by
  obtain ⟨b, rest, hbytes⟩ := List.exists_cons_of_ne_nil hrev
  obtain rfl : b = strayByte := h.strays b (by simp [hbytes])
  have hresponses : s.cfg.topology.responses = .rev := by rw [h.duplex]; rfl
  rw [← hresponses] at hbytes
  have hpoll : poll s = some strayByte := (poll_awaitResponse h.awaiting).trans (congrArg List.head? hbytes)
  obtain ⟨-, -, execStray⟩ := responseByteSteps s strayByte rest h.awaiting hbytes
  have hstep := exec_txStep_ends (i := .txAwaitStray strayByte)
    (by simp [decodeTx, h.awaiting, hpoll, strayByte, ack, nack]) (execStray (by decide) (by decide)) nofun
  refine ⟨_, (txTurn_live h.live).trans hstep, rfl, ?_⟩
  rw [hresponses] at hbytes ⊢
  exact (h.withRev fun b hb => h.strays b (by rw [hbytes]; exact List.mem_cons_of_mem _ hb)).ret (.tx .running)

/-- A round of the storm changes nothing that matters to it. -/
theorem round (h : Storm s) (en : Bool) : ∃ t, round en s = .next t ∧ t.raised = false ∧ Storm t := by
  obtain ⟨s1, h1, hr1, hs1⟩ := h.insertionPoint.1.rxTurn en
  obtain ⟨hs1, hrev⟩ := hs1.insertionPoint
  obtain ⟨s2, h2, hr2, hs2⟩ := hs1.txTurn hrev
  exact ⟨_, round_of_turns h1 hr1 h2 hr2, rfl, hs2.insertionPoint.1.tick.ret _⟩

theorem active (h : Storm s) : s.tx.state.isTerminal = false := by rw [h.awaiting]; rfl

/-- Any number of rounds leaves the storm as it was. -/
theorem runLoop (h : Storm s) (n : Nat) (en : List Bool) :
    ∃ t, runLoop n en s = .next t ∧ t.raised = false ∧ Storm t := by
  induction n generalizing s en with
  | zero => exact ⟨_, rfl, rfl, h.ret .nothing⟩
  | succ n ih =>
    obtain ⟨u, hu, hr, hstorm⟩ := h.round (nextEnabled en)
    obtain ⟨t, ht, htr, ht'⟩ := ih (hstorm.withIter (u.iter + 1)) en.tail
    exact ⟨t, (runLoop_round h.active hu hr n).trans ht, htr, ht'⟩

/-- A run of any budget ends BUDGET_EXHAUSTED, the TX still waiting (R246, R309). -/
theorem exhausts (h : Storm s) (n : Nat) (en : List Bool) : ∃ t, exec (.schedRun n en) s = .next t
    ∧ t.runStatus = .budgetExhausted ∧ t.tx.state = .awaitResponse := by
  obtain ⟨u, hu, hr, hstorm⟩ := (h.withIter 0).runLoop n en
  refine ⟨endRun u, execSchedRun_of_runLoop h.live hu hr, ?_⟩
  rw [endRun_exhausted hstorm.active]
  exact ⟨rfl, hstorm.awaiting⟩

end Storm

/-! ### A storm that meets the invariant -/

/-- The reference configuration under LOSSY. -/
def stormCfg : Cfg := { Cfg.reference with env := .lossy }

/-- A transmitter whose empty frame is sent, waiting in its first attempt. -/
def waitingTx : TransmitterContext :=
  { state := .awaitResponse, payload := [], plen := 0#8, frame := Buffer.ofList [stx, 0#8, 0#8, etx], flen := 4#9
    cursor := 4#9, attempts := 1#8, waitStart := 0, outcome := .pending, built := true }

/-- A new harness with this transmitter, under an environment that inserts stray bytes for ever. -/
def stormState : State :=
  (((State.created stormCfg).withTx waitingTx).withTxLive true).withEnv
    { sends := [], inserts := [], endless := .steady .pass [(.rev, strayByte)] }

theorem stormState_storm : Storm stormState := by constructor <;> decide

theorem stormState_inv : stormState.Inv := by
  have htx : TxInv ((State.created stormCfg).withTx waitingTx) :=
    { legal := rfl, plen := rfl, frame := fun _ => ⟨[stx, 0#8, 0#8, etx], by decide⟩, unbuilt := nofun
      cursor := by decide, sending := nofun, awaiting := fun _ => rfl, attempts := by decide, wait := by decide
      outcome := rfl }
  have hcreated : (State.created stormCfg).Inv := State.Inv.created (by decide)
  have hwaiting : ((State.created stormCfg).withTx waitingTx).Inv := hcreated.withTx htx rfl
  refine (inv_congr ?_ ?_ ?_ ?_ fun _ => ?_).mpr hwaiting <;> rfl

/-- Settles O48: the rounds left begin at R311's bound and get fewer; under LOSSY a storm never ends. -/
theorem runIsTerminalWithinTheBound : Obligations.RunIsTerminalWithinTheBound := by
  unfold Obligations.RunIsTerminalWithinTheBound
  refine ⟨fun n en s hs hlive hduplex hreliable hacks hst hb hn => ?bounded,
    stormState, stormState_inv, rfl, rfl, rfl, fun n => stormState_storm.exhausts n []⟩
  case bounded =>
    have hstart : Undisturbed (s.withIter 0) := .withIter ⟨hs, hlive, hduplex, hreliable, hacks⟩ 0
    have hleft : (s.withIter 0).roundsLeft = roundBound s.cfg s.tx.payload.length :=
      roundsLeft_new hstart.inv.tx hst hb
    obtain ⟨u, hu, hr, hterm, hle⟩ := runLoop_terminates hstart (hleft ▸ hn) en
    refine ⟨endRun u, execSchedRun_of_runLoop hlive hu hr, ?_⟩
    rw [endRun_terminal hterm]
    exact ⟨rfl, hterm, by simpa [hleft] using hle⟩

end Sys2Proof.Machine
end

section
/-! SUPPORT. A message over an idle DUPLEX, RELIABLE channel (R318): the TX sends one byte a round, the RX takes it in the
next, and the ACK of the delivery ends the message in the round it is sent. -/

namespace Sys2Proof.Machine

/-! ### The receiver, by what it has still to take of a frame -/

section awaits
variable {len b : Byte} {p got rest bs : List Byte} {s t : State}

theorem Collected.congr (h : Collected len got s) (hrx : t.rx = s.rx) (hcfg : t.cfg = s.cfg) : Collected len got t := by
  cases s; cases t; cases hrx; cases hcfg
  exact ⟨h.state, h.length, h.fits, h.cursor, h.fold, h.data⟩

theorem Checked.congr (h : Checked got s) (hrx : t.rx = s.rx) (hcfg : t.cfg = s.cfg) : Checked got t := by
  cases s; cases t; cases hrx; cases hcfg
  exact ⟨h.state, h.fits, h.data⟩

/-- The receiver has taken the first bytes of the frame of `p` and these are the ones still to come. -/
inductive Awaits (len : Byte) (p : List Byte) (s : State) : List Byte → Prop where
  | marker (state : s.rx.state = .awaitStart) (fits : len.toNat ≤ s.cfg.maxPayload) :
    Awaits len p s (stx :: len :: (p ++ [checksum len p, etx]))
  | length (state : s.rx.state = .readLength) (fits : len.toNat ≤ s.cfg.maxPayload) :
    Awaits len p s (len :: (p ++ [checksum len p, etx]))
  | data {got rest : List Byte} {b : Byte} (split : p = got ++ b :: rest) (collected : Collected len got s) :
    Awaits len p s (b :: (rest ++ [checksum len p, etx]))
  | checksum (collected : Collected len p s) : Awaits len p s [checksum len p, etx]
  | endMarker (checked : Checked p s) : Awaits len p s [etx]

namespace Awaits

theorem congr (h : Awaits len p s bs) (hrx : t.rx = s.rx) (hcfg : t.cfg = s.cfg) : Awaits len p t bs := by
  cases h with
  | marker state fits => exact .marker (hrx ▸ state) (hcfg ▸ fits)
  | length state fits => exact .length (hrx ▸ state) (hcfg ▸ fits)
  | data split collected => exact .data split (collected.congr hrx hcfg)
  | checksum collected => exact .checksum (collected.congr hrx hcfg)
  | endMarker checked => exact .endMarker (checked.congr hrx hcfg)

/-- After LEN and some of the DATA bytes the others are still to come, then CHK and ETX. -/
theorem of_collected (hsplit : p = got ++ rest) (h : Collected len got s) :
    Awaits len p s (rest ++ [Machine.checksum len p, etx]) := by
  cases rest with
  | nil =>
    obtain rfl : p = got := by simpa using hsplit
    exact .checksum h
  | cons b rest => exact .data hsplit h

/-- Every byte but the last is taken quietly. -/
theorem quiet_byte (h : Awaits len p s (b :: bs)) (hlen : p.length = len.toNat) (hbs : bs ≠ []) :
    ∃ t, Quiet [b] s t ∧ Awaits len p t bs := by
  cases h with
  | marker state fits =>
    obtain ⟨t, hq, ht, hcfg⟩ := quiet_marker state
    exact ⟨t, hq, .length ht (hcfg ▸ fits)⟩
  | length state fits =>
    obtain ⟨t, hq, ht⟩ := quiet_length state fits
    exact ⟨t, hq, .of_collected rfl ht⟩
  | data split collected =>
    obtain ⟨t, hq, ht⟩ := collected.quiet_byte (by rw [← hlen, split]; simp) b
    exact ⟨t, hq, .of_collected (by simp [split]) ht⟩
  | checksum collected =>
    obtain ⟨t, hq, ht⟩ := collected.quiet_checksum hlen
    exact ⟨t, hq, .endMarker ht⟩
  | endMarker => exact absurd rfl hbs

/-- The last byte to come is ETX. -/
theorem last_byte (h : Awaits len p s bs) (hbs : bs = [b]) : b = etx ∧ Checked p s := by
  cases h with
  | marker | length | data | checksum => simp at hbs
  | endMarker checked => exact ⟨(List.head_eq_of_cons_eq hbs).symm, checked⟩

end Awaits

end awaits

/-- What a quiet byte's step is. -/
theorem Quiet.step {b : Byte} {s t : State} (h : Quiet [b] s t) :
    execRxStep (some b) s = .next t ∧ t.result = .rx .none := by
  obtain ⟨u, hu, hut⟩ := andThen_eq_next h.feed
  cases hut
  have hresults := h.results
  simp only [feedResults, hu] at hresults
  exact ⟨hu, List.head_eq_of_cons_eq hresults⟩

/-- A quiet step writes the receiver alone (R177). -/
theorem execRxStep_quiet {input : Option Byte} {s t : State} (h : execRxStep input s = .next t)
    (hr : t.result = .rx .none) : t = (s.withRx t.rx).ret (.rx .none) := by
  cases RxStepped.execRxStep input s t h with
  | quiet r => rfl
  | rejected | delivered | raised => cases hr

/-! ### The transmitter, by what it has still to send -/

/-- The frame of `p` in a transmitter's first attempt, and the bytes of it still to send. -/
structure Transmits (len : Byte) (p toSend : List Byte) (x : TransmitterContext) : Prop where
  payload : x.payload = p
  attempt : x.attempts = 1#8
  state : x.state = if toSend = [] then .awaitResponse else .sending
  left : (stx :: len :: (p ++ [checksum len p, etx])).drop x.cursor.toNat = toSend

namespace Transmits

variable {len c : Byte} {p rest : List Byte} {x : TransmitterContext} {s : State}

/-- The bytes sent and the bytes left make up the frame. -/
theorem length_left (h : Transmits len p (c :: rest) x) : x.cursor.toNat + (rest.length + 1) = p.length + 4 := by
  have hcount := congrArg List.length h.left
  simp only [List.length_drop, List.length_cons, List.length_append, List.length_nil] at hcount
  omega

/-- With the next byte sent the others are left. -/
theorem drop_succ (h : Transmits len p (c :: rest) x) :
    (stx :: len :: (p ++ [checksum len p, etx])).drop (x.cursor.toNat + 1) = rest := by
  rw [← List.tail_drop, h.left]
  rfl

/-- The next byte to send stands in tx_frame at tx_cursor. -/
theorem read_frame (h : Transmits len p (c :: rest) s.tx) (hinv : TxInv s) (hb : s.tx.built = true)
    (hlen : p.length = len.toNat) : Buffer.read s.tx.cursor.toNat s.tx.frame = some c := by
  obtain ⟨bs, he, hframe, -⟩ := hinv.frame hb
  rw [h.payload, encodeFrame_iff_len.mpr ⟨len, hlen, rfl⟩] at he
  obtain rfl := Option.some.inj he
  rw [hframe, Buffer.read_ofList, ← List.head?_drop, h.left]
  rfl

end Transmits

namespace Undisturbed

variable {len c : Byte} {p rest : List Byte} {s : State}

/-- With room, a frame byte goes to the end of FWD and nothing else changes (R75). -/
theorem send_frame_byte (h : Undisturbed s) (hfwd : s.bytes .fwd = []) (b : Byte) :
    send s.cfg.topology.frames b s = s.withBytes .fwd [b] := by
  have hroom : (s.bytes .fwd).length < s.cfg.capacity := by rw [hfwd]; exact h.one_le_capacity
  rw [h.frames, send_reliable h.reliable hroom, hfwd, List.nil_append]

/-- The first step of a new message sends STX (R318: byte 0 in round 0). -/
theorem txTurn_first (h : Undisturbed s) (hst : s.tx.state = .init) (hb : s.tx.built = false)
    (hlim : 0 < s.cfg.retryLimit) (hlen : s.tx.payload.length = len.toNat) (hfwd : s.bytes .fwd = []) :
    ∃ t, txTurn s = .next t ∧ t.raised = false
      ∧ Transmits len s.tx.payload (len :: (s.tx.payload ++ [checksum len s.tx.payload, etx])) t.tx
      ∧ t.bytes .fwd = [stx] ∧ t.bytes .rev = s.bytes .rev ∧ t.rx = s.rx := by
  obtain ⟨frame, hstep⟩ := exec_txStep_first hst hb hlim (encodeFrame_iff_len.mpr ⟨len, hlen, rfl⟩)
  rw [h.send_frame_byte hfwd] at hstep
  exact ⟨_, (txTurn_live h.live).trans hstep, rfl, ⟨rfl, rfl, rfl, rfl⟩, rfl, rfl, rfl⟩

/-- A later step sends the next byte; after the last one the TX awaits the response (R207, R208). -/
theorem txTurn_sends (h : Undisturbed s) (ht : Transmits len p (c :: rest) s.tx) (hlen : p.length = len.toNat)
    (hfwd : s.bytes .fwd = []) : ∃ t, txTurn s = .next t ∧ t.raised = false ∧ Transmits len p rest t.tx
      ∧ t.bytes .fwd = [c] ∧ t.bytes .rev = s.bytes .rev ∧ t.rx = s.rx := by
  have hst : s.tx.state = .sending := ht.state
  have hbuilt := h.inv.tx.built (by simp [hst]) (by simp [hst])
  have hflen : s.tx.flen.toNat = p.length + 4 := ht.payload ▸ h.inv.tx.flen_eq hbuilt
  have hcount := ht.length_left
  have hroom : s.tx.cursor.toNat < 259 := by omega
  have hsucc : (s.tx.cursor + 1#9).toNat = s.tx.cursor.toNat + 1 := by bv_omega
  obtain ⟨sendMore, sendLast⟩ := sendSteps.1 s c hst (ht.read_frame h.inv.tx hbuilt hlen)
  rw [h.send_frame_byte hfwd] at sendMore sendLast
  by_cases hlast : rest = []
  · have heq : s.tx.cursor + 1#9 = s.tx.flen := by
      rw [hlast, List.length_nil] at hcount
      bv_omega
    have hstep := exec_txStep_ends (by simp [hst, decodeTx, guardsOf, heq]) (sendLast hroom heq) nofun
    exact ⟨_, (txTurn_live h.live).trans hstep, rfl,
      ⟨ht.payload, ht.attempt, (if_pos hlast).symm, hsucc ▸ ht.drop_succ⟩, rfl, rfl, rfl⟩
  · have hlt : s.tx.cursor + 1#9 < s.tx.flen := by
      have hpos := List.length_pos_iff.mpr hlast
      bv_omega
    have hstep := exec_txStep_ends (by simp [hst, decodeTx, guardsOf, hlt]) (sendMore hroom hlt) nofun
    exact ⟨_, (txTurn_live h.live).trans hstep, rfl,
      ⟨ht.payload, ht.attempt, hst.trans (if_neg hlast).symm, hsucc ▸ ht.drop_succ⟩, rfl, rfl, rfl⟩

/-- With the frame sent and the ACK in REV the message ends in SUCCESS (R209). -/
theorem txTurn_acknowledged (h : Undisturbed s) (ht : Transmits len p [] s.tx) (hrev : s.bytes .rev = [ack]) :
    ∃ t, txTurn s = .next t ∧ t.raised = false ∧ t.tx.state = .success ∧ t.tx.attempts = 1#8
      ∧ t.bytes .fwd = s.bytes .fwd ∧ t.bytes .rev = [] ∧ t.rx = s.rx := by
  have hst : s.tx.state = .awaitResponse := ht.state
  rw [← h.responses] at hrev
  have hpoll : poll s = some ack := (poll_awaitResponse hst).trans (congrArg List.head? hrev)
  obtain ⟨execAck, -, -⟩ := responseByteSteps s ack [] hst hrev
  rw [h.responses] at execAck
  have hstep := exec_txStep_ends (by simp [hst, decodeTx, hpoll]) (execAck rfl) nofun
  exact ⟨_, (txTurn_live h.live).trans hstep, rfl, rfl, ht.attempt, rfl, rfl, rfl⟩

/-! ### The receiver's turn -/

/-- The RX's turn is its step on what FWD holds. -/
theorem rxTurn_eq (h : Undisturbed s) :
    Machine.rxTurn true s = Machine.execRxStep (s.bytes .fwd).head? (receive .fwd s) := by
  rw [rxTurn_enabled, h.frames, insertionPoint_reliable (s := receive .fwd s) h.reliable]
  rfl

/-- The RX takes the byte on FWD quietly, if it is not the frame's last one. -/
theorem rxTurn_quiet {b : Byte} (h : Undisturbed s) (hlen : p.length = len.toNat) (hfwd : s.bytes .fwd = [b])
    (hawaits : Awaits len p s (b :: c :: rest)) : ∃ t, Machine.rxTurn true s = .next t ∧ t.raised = false
      ∧ t.tx = s.tx ∧ t.bytes .fwd = [] ∧ t.bytes .rev = s.bytes .rev ∧ Awaits len p t (c :: rest) := by
  have hreceived : Awaits len p (receive .fwd s) (b :: c :: rest) := hawaits.congr rfl rfl
  obtain ⟨t, hq, ht⟩ := hreceived.quiet_byte hlen (List.cons_ne_nil c rest)
  obtain ⟨hstep, hr⟩ := hq.step
  refine ⟨t, ?_, ?_, ?_, ?_, ?_, ht⟩
  · rw [h.rxTurn_eq, hfwd]
    exact hstep
  all_goals rw [execRxStep_quiet hstep hr]
  · rfl
  · rfl
  · simp [hfwd]
  · simpa using receive_bytes_other .fwd s (j := .rev) (by decide)

/-- The RX delivers on the frame's last byte and sends its ACK (R172). -/
theorem rxTurn_delivers {b : Byte} (h : Undisturbed s) (hfwd : s.bytes .fwd = [b]) (hrev : s.bytes .rev = [])
    (hawaits : Awaits len p s [b]) : ∃ t, Machine.rxTurn true s = .next t ∧ t.raised = false ∧ t.tx = s.tx
      ∧ t.bytes .fwd = [] ∧ t.bytes .rev = [ack] ∧ t.rx.outcome = .success ∧ rxBytes t.rx.buf t.rx.len.toNat = p := by
  obtain ⟨rfl, hchecked⟩ := hawaits.last_byte rfl
  have hreceived : Checked p (receive .fwd s) := hchecked.congr rfl rfl
  have hrev' : (receive .fwd s).bytes .rev = [] := (receive_bytes_other .fwd s (j := .rev) (by decide)).trans hrev
  have hsend : send .rev ack (receive .fwd s) = (receive .fwd s).withBytes .rev [ack] := by
    rw [send_reliable (s := receive .fwd s) h.reliable (by rw [hrev']; exact h.one_le_capacity), hrev',
      List.nil_append]
  have hdeliver := deliver_eq (receive .fwd s)
  rw [show (receive .fwd s).cfg.topology.responses = .rev from h.responses, hsend] at hdeliver
  have hfwd' : ((receive .fwd s).withBytes .rev [ack]).bytes .fwd = [] := by
    rw [State.bytes_withBytes_other _ (by decide), receive_bytes_same, hfwd]
    rfl
  refine ⟨deliver (receive .fwd s), ?_, ?_⟩
  · rw [h.rxTurn_eq, hfwd]
    exact hreceived.delivers
  · rw [hdeliver]
    exact ⟨rfl, rfl, hfwd', rfl, rfl, hreceived.data⟩

end Undisturbed

end Sys2Proof.Machine
end

section
/-! SUPPORT. The rounds of a message over an idle DUPLEX, RELIABLE channel, and the run made of them (R250, R318). -/

namespace Sys2Proof.Machine

/-- Between two rounds of the first attempt: `toSend` is what the TX has still to send, the byte before it is on FWD, and the
RX has taken all the bytes before that one. -/
structure InFlight (len : Byte) (p toSend : List Byte) (s : State) : Prop where
  base : Undisturbed s
  length : p.length = len.toNat
  transmits : Transmits len p toSend s.tx
  noResponse : s.bytes .rev = []
  wire : ∃ b, s.bytes .fwd = [b] ∧ Awaits len p s (b :: toSend)

/-- The message is delivered and acknowledged in its first attempt, and the channel is idle. -/
structure Delivered (p : List Byte) (s : State) : Prop where
  state : s.tx.state = .success
  attempt : s.tx.attempts = 1#8
  outcome : s.rx.outcome = .success
  data : rxBytes s.rx.buf s.rx.len.toNat = p
  noFrame : s.bytes .fwd = []
  noResponse : s.bytes .rev = []

variable {len c : Byte} {p rest toSend : List Byte} {s : State}

/-- A round of a message that is not over keeps the channel undisturbed and does not write iter. -/
theorem Undisturbed.round (h : Undisturbed s) (hact : s.tx.state.isTerminal = false) (en : Bool) :
    Ensures (fun t => Undisturbed t ∧ t.iter = s.iter) (round en s) := by
  intro t ht
  obtain ⟨u, hu, -, hundisturbed, hiter, -⟩ := round_fewer h hact en
  cases ht.symm.trans hu
  exact ⟨hundisturbed, hiter⟩

theorem Transmits.active {x : TransmitterContext} (h : Transmits len p toSend x) : x.state.isTerminal = false := by
  rw [h.state]
  split <;> rfl

theorem InFlight.withIter (h : InFlight len p toSend s) (n : Nat) : InFlight len p toSend (s.withIter n) where
  base := h.base.withIter n
  length := h.length
  transmits := h.transmits
  noResponse := h.noResponse
  wire := by
    obtain ⟨b, hfwd, hawaits⟩ := h.wire
    exact ⟨b, hfwd, hawaits.congr rfl rfl⟩

/-- What was delivered does not depend on iter and the last result. -/
theorem Delivered.ret_withIter (h : Delivered p s) (n : Nat) (r : OpResult) : Delivered p ((s.withIter n).ret r) :=
  ⟨h.state, h.attempt, h.outcome, h.data, h.noFrame, h.noResponse⟩

/-- Round 0 of a new message: the RX finds nothing, the TX sends STX (R318). -/
theorem round_first (h : Undisturbed s) (hst : s.tx.state = .init) (hb : s.tx.built = false)
    (hlim : 0 < s.cfg.retryLimit) (hfwd : s.bytes .fwd = []) (hrev : s.bytes .rev = []) (hrx : s.rx.state = .awaitStart)
    (hlen : s.tx.payload.length = len.toNat) (hmax : len.toNat ≤ s.cfg.maxPayload) :
    ∃ t, round true s = .next t ∧ t.raised = false ∧ t.iter = s.iter
      ∧ InFlight len s.tx.payload (len :: (s.tx.payload ++ [checksum len s.tx.payload, etx])) t := by
  have h1 : rxTurn true s = .next (s.ret (.rx .none)) := by
    rw [h.rxTurn_eq, hfwd, receive_empty hfwd]
    exact execRxStep_none s
  obtain ⟨s2, h2, hr2, htransmits, hfwd2, hrev2, hrx2⟩ :=
    (h.rxTurn true _ h1).1.txTurn_first hst hb hlim hlen hfwd
  have hcfg : s2.cfg = s.cfg := (Stepped.txTurn _ s2 h2).harness.cfg
  have hround := round_reliable h.reliable h1 rfl h2 hr2
  obtain ⟨hbase, hiter⟩ := h.round (by rw [hst]; rfl) true _ hround
  exact ⟨_, hround, rfl, hiter, hbase, hlen, htransmits, hrev2.trans hrev, stx, hfwd2,
    .marker (congrArg ReceiverContext.state hrx2 |>.trans hrx) (hcfg ▸ hmax)⟩

/-- A round while bytes are left to send: the RX takes the byte on FWD and the TX sends the next one (R318). -/
theorem InFlight.round_next (h : InFlight len p (c :: rest) s) :
    ∃ t, round true s = .next t ∧ t.raised = false ∧ t.iter = s.iter ∧ InFlight len p rest t := by
  obtain ⟨b, hfwd, hawaits⟩ := h.wire
  obtain ⟨s1, h1, hr1, htx1, hfwd1, hrev1, hawaits1⟩ := h.base.rxTurn_quiet h.length hfwd hawaits
  obtain ⟨s2, h2, hr2, htransmits, hfwd2, hrev2, hrx2⟩ :=
    (h.base.rxTurn true s1 h1).1.txTurn_sends (htx1 ▸ h.transmits) h.length hfwd1
  have hcfg : s2.cfg = s1.cfg := (Stepped.txTurn s1 s2 h2).harness.cfg
  have hround := round_reliable h.base.reliable h1 hr1 h2 hr2
  obtain ⟨hbase, hiter⟩ := h.base.round h.transmits.active true _ hround
  exact ⟨_, hround, rfl, hiter, hbase, h.length, htransmits, (hrev2.trans hrev1).trans h.noResponse, c, hfwd2,
    hawaits1.congr hrx2 hcfg⟩

/-- The last round: the RX takes ETX, delivers and sends its ACK, and the TX takes the ACK (R250, R318). -/
theorem InFlight.round_last (h : InFlight len p [] s) :
    ∃ t, round true s = .next t ∧ t.raised = false ∧ t.iter = s.iter ∧ Delivered p t := by
  obtain ⟨b, hfwd, hawaits⟩ := h.wire
  obtain ⟨s1, h1, hr1, htx1, hfwd1, hrev1, houtcome, hdata⟩ := h.base.rxTurn_delivers hfwd h.noResponse hawaits
  obtain ⟨s2, h2, hr2, hst2, hatt2, hfwd2, hrev2, hrx2⟩ :=
    (h.base.rxTurn true s1 h1).1.txTurn_acknowledged (htx1 ▸ h.transmits) hrev1
  have hround := round_reliable h.base.reliable h1 hr1 h2 hr2
  obtain ⟨-, hiter⟩ := h.base.round h.transmits.active true _ hround
  exact ⟨_, hround, rfl, hiter, hst2, hatt2, hrx2 ▸ houtcome, hrx2 ▸ hdata, hfwd2.trans hfwd1, hrev2⟩

/-- With the RX enabled throughout, the loop of a run on a TX that is not terminal is a round and the rest (R246). -/
theorem runLoop_round_enabled {u : State} (hact : s.tx.state.isTerminal = false) (hu : round true s = .next u)
    (hr : u.raised = false) (n : Nat) : runLoop (n + 1) [] s = runLoop n [] (u.withIter (u.iter + 1)) :=
  runLoop_round (en := []) hact hu hr n

/-- The run from here on takes one round for each byte left to send, and one for the delivery. -/
theorem InFlight.runLoop (h : InFlight len p toSend s) (k : Nat) :
    ∃ t, runLoop (k + toSend.length + 1) [] s = .next t ∧ t.raised = false
      ∧ t.iter = s.iter + (toSend.length + 1) ∧ Delivered p t := by
  induction toSend generalizing s with
  | nil =>
    obtain ⟨u, hu, hr, hiter, hdelivered⟩ := h.round_last
    have hterm : (u.withIter (u.iter + 1)).tx.state.isTerminal = true := by
      rw [State.withIter_tx, hdelivered.state]
      rfl
    exact ⟨_, (runLoop_round_enabled h.transmits.active hu hr k).trans (runLoop_terminal hterm k []), rfl,
      congrArg (· + 1) hiter, hdelivered.ret_withIter _ _⟩
  | cons c rest ih =>
    obtain ⟨u, hu, hr, hiter, hnext⟩ := h.round_next
    obtain ⟨t, ht, htr, htiter, hdelivered⟩ := ih (hnext.withIter (u.iter + 1))
    refine ⟨t, (runLoop_round_enabled h.transmits.active hu hr _).trans ht, htr, ?_, hdelivered⟩
    rw [htiter, State.withIter_iter, hiter, List.length_cons]
    omega

/-- A new message over an idle channel is delivered in as many rounds as its frame has bytes, and one more (R318). -/
theorem runLoop_delivers (h : Undisturbed s) (hst : s.tx.state = .init) (hb : s.tx.built = false)
    (hlim : 0 < s.cfg.retryLimit) (hfwd : s.bytes .fwd = []) (hrev : s.bytes .rev = []) (hrx : s.rx.state = .awaitStart)
    (hmax : s.tx.payload.length ≤ s.cfg.maxPayload) (k : Nat) :
    ∃ t, runLoop (k + (s.tx.payload.length + 5)) [] s = .next t ∧ t.raised = false
      ∧ t.iter = s.iter + (s.tx.payload.length + 5) ∧ Delivered s.tx.payload t := by
  have hlen : s.tx.payload.length = s.tx.plen.toNat := h.inv.tx.plen
  obtain ⟨u, hu, hr, hiter, hnext⟩ := round_first h hst hb hlim hfwd hrev hrx hlen (hlen ▸ hmax)
  obtain ⟨t, ht, htr, htiter, hdelivered⟩ := (hnext.withIter (u.iter + 1)).runLoop k
  have hcount : (s.tx.plen :: (s.tx.payload ++ [checksum s.tx.plen s.tx.payload, etx])).length + 1
      = s.tx.payload.length + 4 := by simp
  rw [Nat.add_assoc, hcount] at ht
  refine ⟨t, (runLoop_round_enabled (by rw [hst]; rfl) hu hr _).trans ht, htr, ?_, hdelivered⟩
  rw [htiter, hcount, State.withIter_iter, hiter]
  omega

/-- Settles O49: the message is delivered in round n, and the Clock counts the rounds of the run. -/
theorem messageIsDeliveredEndToEnd : Obligations.MessageIsDeliveredEndToEnd := by
  unfold Obligations.MessageIsDeliveredEndToEnd
  intro n s hs hlive hduplex hreliable hlim hfwd hrev hrx hst hb hmax hn
  have hstart : Undisturbed (s.withIter 0) := .withIter ⟨hs, hlive, hduplex, hreliable, by simp [hrev]⟩ 0
  obtain ⟨k, rfl⟩ := Nat.exists_eq_add_of_le' hn
  obtain ⟨u, hu, hr, hiter, hdelivered⟩ := runLoop_delivers hstart hst hb hlim hfwd hrev hrx hmax k
  have hexec : exec (.schedRun (k + (s.tx.payload.length + 5)) []) s = .next (endRun u) :=
    execSchedRun_of_runLoop hlive hu hr
  obtain ⟨-, runAdvances, -⟩ := clockAdvancesOnlyInRounds _ s _ hexec
  have hnow := runAdvances ⟨_, [], rfl⟩
  refine ⟨endRun u, hexec, ?_⟩
  have hend := endRun_terminal (s := u) (by rw [hdelivered.state]; rfl)
  rw [hend] at hnow ⊢
  refine ⟨rfl, by simpa using hiter, hdelivered.state, hdelivered.attempt, hdelivered.outcome, hdelivered.data,
    hdelivered.noFrame, hdelivered.noResponse, ?_⟩
  have hcount := hnow rfl hs.harness.clock
  simpa [hiter, Nat.add_assoc] using hcount

end Sys2Proof.Machine
end
